-- ==== Sys2Proof/Word.lean ====
section
/-! DEFINITION. The words of the block: bytes, 16-bit and 17-bit registers, and the names of the two
units and the four buffers (00_scope.md section 7; 10_state.md rules R11 to R14, R22). -/

namespace Sys2Proof

/-- A byte, 8 bits, unsigned (00_scope.md section 7). -/
abbrev Byte := BitVec 8

/-- The spec's `u16`: payload lengths, counters and CRC accumulators (10_state.md R11, R12, R14). -/
abbrev Half := BitVec 16

/-- The spec's `u17`: buffer positions and frame sizes (10_state.md R13, R16). -/
abbrev Pos := BitVec 17

/-- The two units that take steps of their own (00_scope.md R6): TXF performs ENCODE, RXD performs DECODE. -/
inductive CodecUnit
  | txf
  | rxd
  deriving DecidableEq, Repr

/-- The four byte buffers, each an address space of its own (10_state.md R22). -/
inductive Space
  | txpay
  | txfrm
  | rxbuf
  | rxpay
  deriving DecidableEq, Repr

end Sys2Proof
end

