-- ==== Sys2Proof/Config.lean ====
section
/-! DEFINITION. What is fixed for the block: the constants of the wire format (00_scope.md R2), the CRC
parameter record (R3), and the values that the spec leaves open (93_implementation_defined.md U4, U8). -/

namespace Sys2Proof

/-- MARKER_SHORT (00_scope.md R2): the start marker of the short header. -/
def Config.markerShort : Byte := 0x02#8

/-- MARKER_LONG (00_scope.md R2): the start marker of the long header. -/
def Config.markerLong : Byte := 0x03#8

/-- TERMINATOR (00_scope.md R2): the footer's last byte. -/
def Config.terminator : Byte := 0x03#8

/-- SHORT_LIMIT (00_scope.md R2): payloads shorter than this take the short header on encode. -/
def Config.shortLimit : Nat := 256

/-- LEN_LIMIT (00_scope.md R2): payloads of this length or more are refused by encode. -/
def Config.lenLimit : Nat := 65536

/-- MAX_PAYLOAD (00_scope.md R2): LEN_LIMIT - 1, the longest payload that encode accepts. -/
def Config.maxPayload : Nat := 65535

/-- HDR_SIZE_SHORT (00_scope.md R2): the marker and one length byte. -/
def Config.hdrSizeShort : Nat := 2

/-- HDR_SIZE_LONG (00_scope.md R2): the marker and two length bytes. -/
def Config.hdrSizeLong : Nat := 3

/-- FOOTER_SIZE (00_scope.md R2): two CRC bytes and the terminator. -/
def Config.footerSize : Nat := 3

/-- MIN_FRAME_ENC (00_scope.md R2): the size of the smallest frame that encode produces. -/
def Config.minFrameEnc : Nat := 6

/-- MAX_FRAME (00_scope.md R2): the size of the largest frame. -/
def Config.maxFrame : Nat := 65541

/-- The parameter record CRC_PARAMS (00_scope.md R3; 93_implementation_defined.md U13). Its width is the
register width, 16 bits, and stands in the types. -/
structure CrcParams where
  /-- CRC_POLY, without the term x^16. -/
  poly : Half
  /-- CRC_INIT. -/
  init : Half
  /-- CRC_REFIN: are the bits of each input byte taken least significant first? -/
  refin : Bool
  /-- CRC_REFOUT: is the result bit-reversed? -/
  refout : Bool
  /-- CRC_XOROUT. -/
  xorout : Half
  deriving DecidableEq, Repr

/-- The values of R3 (marked there as general knowledge and not from the source): CRC-16/XMODEM. -/
def Config.crcParams : CrcParams :=
  { poly := 0x1021#16, init := 0x0000#16, refin := false, refout := false, xorout := 0x0000#16 }

/-- FREE VALUE. What a byte of a buffer that nothing has written reads as: "any value"
(93_implementation_defined.md U8; 70_reset_and_hazards.md R172). It has no body that a proof can see, so
nothing can be proved of it: an arbitrary but fixed content of each buffer at power-up. -/
opaque Config.powerUpByte : Space → Nat → Byte

/-- FREE VALUE. What a unit reads from its input buffer after the host has written to that buffer during
the operation, against the snapshot rule: "any value" for each byte it then reads
(93_implementation_defined.md U4; 20_memory.md R40). The counter makes every such read a fresh value. -/
opaque Config.disturbedByte : CodecUnit → Nat → Byte

end Sys2Proof
end

