-- ==== Sys2Proof/Syntax.lean ====
section
/-! DEFINITION. The syntax: one constructor of `Instr` for each row of spec/opcode_table.json, and the
operands those rows speak of. -/

namespace Sys2Proof

/-- The error mode of DECODE, `on_error` (42_deframer.md R111; coding 10_state.md R19: 0 ignore, 1 raise). -/
inductive ErrMode
  | ignore
  | raise
  deriving DecidableEq, Repr

/-- The two frame formats, SF and LF (30_encoding.md R50 to R52). -/
inductive Format
  | short
  | long
  deriving DecidableEq, Repr

/-- The registers that the host can read: the rows marked `r` of 10_state.md R12 and R14. -/
inductive Reg
  | txLen | txPos | txCnt | txCrc | txStatus | txCause | txFlen
  | rxN | rxMode | rxPos | rxCnt | rxMarker | rxPayidx | rxPaylen | rxFsize
  | rxCrc | rxFcrc | rxTerm | rxFlags | rxStatus | rxCause | rxConsumed
  deriving DecidableEq, Repr

/-- What host action READ may read (60_exceptions.md R156): a readable register, or a byte of TXFRM or of
RXPAY at an index. -/
inductive ReadTarget
  | reg (r : Reg)
  | txfrm (index : Nat)
  | rxpay (index : Nat)
  deriving DecidableEq, Repr

/-- The rows of spec/opcode_table.json. The block fetches no instructions (00_scope.md R1): the rows are
the two frame formats and the seven rows of reserved markers that the deframer dispatches on, the three
operations, the four CRC micro-operations that the sequencers issue, and the six host actions. -/
inductive Instr
  /-- FRAME.SHORT (30_encoding.md R51, R55): marker 0x02, which selects format SF. -/
  | frameShort
  /-- FRAME.LONG (30_encoding.md R52, R55): marker 0x03, which selects format LF. -/
  | frameLong
  /-- MARKER.RESERVED.0 (30_encoding.md R57): markers 0x00 and 0x01. -/
  | markerReserved0 (marker : Byte)
  /-- MARKER.RESERVED.1 (R57): markers 0x04 to 0x07. -/
  | markerReserved1 (marker : Byte)
  /-- MARKER.RESERVED.2 (R57): markers 0x08 to 0x0F. -/
  | markerReserved2 (marker : Byte)
  /-- MARKER.RESERVED.3 (R57): markers 0x10 to 0x1F. -/
  | markerReserved3 (marker : Byte)
  /-- MARKER.RESERVED.4 (R57): markers 0x20 to 0x3F. -/
  | markerReserved4 (marker : Byte)
  /-- MARKER.RESERVED.5 (R57): markers 0x40 to 0x7F. -/
  | markerReserved5 (marker : Byte)
  /-- MARKER.RESERVED.6 (R57): markers 0x80 to 0xFF. -/
  | markerReserved6 (marker : Byte)
  /-- ENCODE (41_framer.md R92): the payload is TXPAY[0:txLen). -/
  | encodeOp (txLen : Nat)
  /-- DECODE.IGNORE (42_deframer.md R112): the buffer is RXBUF[0:rxLen), `on_error` = ignore. -/
  | decodeIgnore (rxLen : Nat)
  /-- DECODE.RAISE (42_deframer.md R112): the buffer is RXBUF[0:rxLen), `on_error` = raise. -/
  | decodeRaise (rxLen : Nat)
  /-- CRC.CLR (40_crc.md R71) on the accumulator of a unit. -/
  | crcClr (u : CodecUnit)
  /-- CRC.UPD (40_crc.md R72): fold one byte into the accumulator of a unit. -/
  | crcUpd (u : CodecUnit) (b : Byte)
  /-- CRC16 (40_crc.md R74): the composite over a byte sequence, in the accumulator of a unit. -/
  | crc16 (u : CodecUnit) (bytes : List Byte)
  /-- CRC.CHK (40_crc.md R76): compare RX_CRC with RX_FCRC. -/
  | crcChk
  /-- START.TX (60_exceptions.md R153): pulse `tx_start` with this value on `tx_len`. -/
  | startTx (txLen : Nat)
  /-- START.RX (60_exceptions.md R154): pulse `rx_start` with these values on `rx_len` and `rx_mode`. -/
  | startRx (rxLen : Nat) (mode : ErrMode)
  /-- POLL (60_exceptions.md R155): read `tx_busy` or `rx_busy`. -/
  | poll (u : CodecUnit)
  /-- READ (60_exceptions.md R156). -/
  | read (target : ReadTarget)
  /-- WRITE.TXPAY (60_exceptions.md R157): write bytes from an index of TXPAY upward. -/
  | writeTxpay (index : Nat) (bytes : List Byte)
  /-- WRITE.RXBUF (60_exceptions.md R157): write bytes from an index of RXBUF upward. -/
  | writeRxbuf (index : Nat) (bytes : List Byte)
  deriving DecidableEq, Repr

end Sys2Proof
end

