-- ==== Sys2Proof/WellFormed.lean ====
section
/-! DEFINITION. Which terms of `Instr` stand for a word of their row: a reserved-marker row admits the
markers that its match and mask select (30_encoding.md R57; spec/opcode_table.json). -/

namespace Sys2Proof

/-- A byte is a word of a row when the bits that the mask names equal the row's pattern. -/
def rowAdmits (mask pattern b : Byte) : Bool := (b &&& mask) == pattern

/-- The well-formed instructions. The checks are those of the seven reserved-marker rows; every other
operand may take every value of its type (a length of any size is defined: 41_framer.md R91 and
91_not_in_source.md N11). -/
def wellFormed : Instr → Bool
  | .frameShort => true
  | .frameLong => true
  | .markerReserved0 b => rowAdmits 0xFE#8 0x00#8 b
  | .markerReserved1 b => rowAdmits 0xFC#8 0x04#8 b
  | .markerReserved2 b => rowAdmits 0xF8#8 0x08#8 b
  | .markerReserved3 b => rowAdmits 0xF0#8 0x10#8 b
  | .markerReserved4 b => rowAdmits 0xE0#8 0x20#8 b
  | .markerReserved5 b => rowAdmits 0xC0#8 0x40#8 b
  | .markerReserved6 b => rowAdmits 0x80#8 0x80#8 b
  | .encodeOp _ => true
  | .decodeIgnore _ => true
  | .decodeRaise _ => true
  | .crcClr _ => true
  | .crcUpd _ _ => true
  | .crc16 _ _ => true
  | .crcChk => true
  | .startTx _ => true
  | .startRx _ _ => true
  | .poll _ => true
  | .read _ => true
  | .writeTxpay _ _ => true
  | .writeRxbuf _ _ => true

end Sys2Proof
end

