-- ==== Sys2Proof/Decode.lean ====
section
/-! DEFINITION. Decoding and encoding (30_encoding.md). Three codecs stand here: the marker dispatch on
byte 0 of a frame (R55, R57); the table key OPSEL of the three operations (R62); and the frame itself,
header, payload and footer, in both formats (R50 to R54, R56). Everything is total and rejects by name. -/

namespace Sys2Proof

/-! ### Bit fields and byte order (00_scope.md section 7; 20_memory.md R30) -/

/-- `v[15:8]`. -/
def hiByte (v : Half) : Byte := v.extractLsb' 8 8

/-- `v[7:0]`. -/
def loByte (v : Half) : Byte := v.extractLsb' 0 8

/-- `{hi, lo}`: big-endian, the first byte in the high half (20_memory.md R30). -/
def joinBytes (hi lo : Byte) : Half := hi ++ lo

/-! ### The marker dispatch -/

/-- The row of spec/opcode_table.json that a marker byte selects (30_encoding.md R55, R57). All eight bits
are compared; the nine rows cover all 256 values and are disjoint, so the last row is what remains. -/
def decodeMarker (b : Byte) : Instr :=
  if b = Config.markerShort then .frameShort
  else if b = Config.markerLong then .frameLong
  else if rowAdmits 0xFE#8 0x00#8 b then .markerReserved0 b
  else if rowAdmits 0xFC#8 0x04#8 b then .markerReserved1 b
  else if rowAdmits 0xF8#8 0x08#8 b then .markerReserved2 b
  else if rowAdmits 0xF0#8 0x10#8 b then .markerReserved3 b
  else if rowAdmits 0xE0#8 0x20#8 b then .markerReserved4 b
  else if rowAdmits 0xC0#8 0x40#8 b then .markerReserved5 b
  else .markerReserved6 b

/-- Why a sequence of bytes is no instruction. -/
inductive DecodeError
  /-- There is no first byte to dispatch on. -/
  | noByte
  deriving DecidableEq, Repr

/-- The instruction that the first byte of a sequence selects. -/
def decode : List Byte → Except DecodeError Instr
  | [] => .error .noByte
  | b :: _ => .ok (decodeMarker b)

/-! ### The table key OPSEL -/

/-- The operation that a value of OPSEL = unit, mode selects (30_encoding.md R62), with the value on the
unit's length port: bit 1 is the unit, bit 0 the error mode, which the transmit side ignores. -/
def decodeOpsel (key : BitVec 2) (len : Nat) : Instr :=
  if key.getLsbD 1 then
    if key.getLsbD 0 then .decodeRaise len else .decodeIgnore len
  else .encodeOp len

/-- The two kinds of word that spec/opcode_table.json gives its rows. -/
inductive Key
  /-- Byte 0 of a frame. -/
  | marker (b : Byte)
  /-- The key OPSEL. -/
  | opsel (k : BitVec 2)
  deriving DecidableEq, Repr

/-- The word of an instruction, where its row has one. The CRC micro-operations and the host actions have
no encoding in any source (30_encoding.md R62; 91_not_in_source.md N7). -/
def encode : Instr → Option Key
  | .frameShort => some (.marker Config.markerShort)
  | .frameLong => some (.marker Config.markerLong)
  | .markerReserved0 b => some (.marker b)
  | .markerReserved1 b => some (.marker b)
  | .markerReserved2 b => some (.marker b)
  | .markerReserved3 b => some (.marker b)
  | .markerReserved4 b => some (.marker b)
  | .markerReserved5 b => some (.marker b)
  | .markerReserved6 b => some (.marker b)
  | .encodeOp _ => some (.opsel 0b00#2)
  | .decodeIgnore _ => some (.opsel 0b10#2)
  | .decodeRaise _ => some (.opsel 0b11#2)
  | .crcClr _ => none
  | .crcUpd _ _ => none
  | .crc16 _ _ => none
  | .crcChk => none
  | .startTx _ => none
  | .startRx _ _ => none
  | .poll _ => none
  | .read _ => none
  | .writeTxpay _ _ => none
  | .writeRxbuf _ _ => none

/-- The value on the length port with which an operation is called; 0 for a row without one. -/
def lengthOperand : Instr → Nat
  | .frameShort => 0
  | .frameLong => 0
  | .markerReserved0 _ => 0
  | .markerReserved1 _ => 0
  | .markerReserved2 _ => 0
  | .markerReserved3 _ => 0
  | .markerReserved4 _ => 0
  | .markerReserved5 _ => 0
  | .markerReserved6 _ => 0
  | .encodeOp n => n
  | .decodeIgnore n => n
  | .decodeRaise n => n
  | .crcClr _ => 0
  | .crcUpd _ _ => 0
  | .crc16 _ _ => 0
  | .crcChk => 0
  | .startTx _ => 0
  | .startRx _ _ => 0
  | .poll _ => 0
  | .read _ => 0
  | .writeTxpay _ _ => 0
  | .writeRxbuf _ _ => 0

/-- The instruction of a word and a value on the length port. -/
def decodeKey (k : Key) (len : Nat) : Except DecodeError Instr :=
  match k with
  | .marker b => decode [b]
  | .opsel k => .ok (decodeOpsel k len)

/-- The bytes of a number, least significant first: the order in which spec/opcode_table.json numbers the
bits of an instruction. -/
def bytesOfNat : Nat → Nat → List Byte
  | 0, _ => []
  | n + 1, w => BitVec.ofNat 8 w :: bytesOfNat n (w / 256)

/-- The instruction of a row's word as the table numbers its bits. A row of 8 bits or more is a marker
row, whose first byte is the whole key; a row of fewer bits is a row of the 2-bit key OPSEL, and its
length operand is 0. -/
def decodeTableWord (nbits w : Nat) : Option Instr :=
  if nbits = 0 then none
  else if nbits < 8 then some (decodeOpsel (BitVec.ofNat 2 w) 0)
  else match decode (bytesOfNat (nbits / 8) w) with
    | .ok i => some i
    | .error _ => none

/-! ### The frame -/

/-- `payload_index` = `header_size`: 2 in a short frame, 3 in a long one (30_encoding.md R55). -/
def Format.headerSize : Format → Nat
  | .short => Config.hdrSizeShort
  | .long => Config.hdrSizeLong

/-- The start marker of a format (30_encoding.md R55). -/
def Format.marker : Format → Byte
  | .short => Config.markerShort
  | .long => Config.markerLong

/-- The largest payload length that the length field of a format can carry (30_encoding.md R51, R52). -/
def Format.maxLen : Format → Nat
  | .short => Config.shortLimit - 1
  | .long => Config.maxPayload

/-- `frame_size = header_size + payload_length + footer_size`, a sum of natural numbers (30_encoding.md R56). -/
def frameSize (f : Format) (len : Nat) : Nat := f.headerSize + len + Config.footerSize

/-- A frame taken apart: its format, its payload, and the footer's two fields as they stand on the wire
(10_state.md R11; 30_encoding.md R50). -/
structure Frame where
  format : Format
  payload : List Byte
  crc : Half
  term : Byte
  deriving DecidableEq, Repr

/-- A frame whose payload its length field can count. -/
def Frame.wf (f : Frame) : Bool := f.payload.length ≤ f.format.maxLen

/-- The header bytes of a format and a payload length (30_encoding.md R51 to R53). -/
def headerBytes (f : Format) (len : Nat) : List Byte :=
  match f with
  | .short => [Config.markerShort, loByte (BitVec.ofNat 16 len)]
  | .long => [Config.markerLong, hiByte (BitVec.ofNat 16 len), loByte (BitVec.ofNat 16 len)]

/-- `header_bytes ‖ payload ‖ footer_bytes` (30_encoding.md R50), the CRC big-endian (R54). -/
def encodeFrame (f : Frame) : List Byte :=
  headerBytes f.format f.payload.length ++ f.payload ++ [hiByte f.crc, loByte f.crc, f.term]

/-- Why a buffer holds no complete frame at index 0: the first three classes of the state-machine view
(42_deframer.md R116), the second one split in two. All of them are the outcome NoFrame. -/
inductive FrameReject
  /-- EMPTY: no byte at all. -/
  | empty
  /-- Byte 0 is no marker (30_encoding.md R57). -/
  | unknownMarker (b : Byte)
  /-- A marker, but not all of the header; the length bytes that are there. -/
  | headerShort (f : Format) (present : List Byte)
  /-- HEADER_OK, SHORT_OF_FRAME_SIZE: the header says how long the payload is, and not all is there. -/
  | sizeShort (f : Format) (len : Nat)
  deriving DecidableEq, Repr

/-- The format that a marker selects (30_encoding.md R55). -/
def formatOf (b : Byte) : Option Format :=
  if b = Config.markerShort then some .short
  else if b = Config.markerLong then some .long
  else none

/-- Steps 1 and 2 of DECODE (42_deframer.md R112): the format and the payload length that the header at
index 0 gives (30_encoding.md R53). -/
def decodeHeader (buffer : List Byte) : Except FrameReject (Format × Nat) :=
  match buffer with
  | [] => .error .empty
  | b :: rest =>
    match formatOf b with
    | none => .error (.unknownMarker b)
    | some .short =>
      match rest with
      | [] => .error (.headerShort .short [])
      | l :: _ => .ok (.short, l.toNat)
    | some .long =>
      match rest with
      | [] => .error (.headerShort .long [])
      | [h] => .error (.headerShort .long [h])
      | h :: l :: _ => .ok (.long, (joinBytes h l).toNat)

/-- `s[a:b)` with `b = a + n` (00_scope.md section 7). -/
def slice (s : List Byte) (a n : Nat) : List Byte := (s.drop a).take n

/-- Steps 1 to 4 of DECODE (42_deframer.md R112): the frame at index 0, or why there is none. -/
def decodeFrame (buffer : List Byte) : Except FrameReject Frame :=
  match decodeHeader buffer with
  | .error e => .error e
  | .ok (f, len) =>
    if buffer.length < frameSize f len then .error (.sizeShort f len)
    else
      let h := f.headerSize
      .ok
        { format := f
          payload := slice buffer h len
          crc := joinBytes (buffer.getD (h + len) 0) (buffer.getD (h + len + 1) 0)
          term := buffer.getD (h + len + 2) 0 }

end Sys2Proof
end

