-- ==== Sys2Proof/Machine/State.lean ====
section
/-! DEFINITION. The state of the block as plain data: the registers of the two units (10_state.md R12, R14),
the four buffers (R22), and the model's own fields: who moves next, what the host was last answered, and
the bookkeeping of the free values. `State.reset` is 70_reset_and_hazards.md R170. -/

namespace Sys2Proof.Machine

/-- TX_PHASE (10_state.md R15). -/
inductive TxPhase
  | idle | check | mark | lenh | lenl | pay | crch | crcl | term
  deriving DecidableEq, Repr

/-- RX_PHASE (10_state.md R15). -/
inductive RxPhase
  | idle | mark | lenh | lenl | size | pay | crch | crcl | term | check
  deriving DecidableEq, Repr

/-- TX_STATUS (10_state.md R17). -/
inductive TxStatus
  /-- 0 TX_NONE. -/
  | never
  /-- 1 TX_BUSY. -/
  | busy
  /-- 2 TX_OK. -/
  | ok
  /-- 3 TX_FAULT. -/
  | fault
  deriving DecidableEq, Repr

/-- RX_STATUS (10_state.md R17); the reserved values 6 and 7 are never produced and are no values here
(93_implementation_defined.md U5). -/
inductive RxStatus
  /-- 0 RX_NONE. -/
  | never
  /-- 1 RX_BUSY. -/
  | busy
  /-- 2 RX_NOFRAME. -/
  | noFrame
  /-- 3 RX_ACCEPT. -/
  | accept
  /-- 4 RX_DISCARD. -/
  | discard
  /-- 5 RX_FAULT. -/
  | fault
  deriving DecidableEq, Repr

/-- TX_CAUSE (10_state.md R18): the codes that TXF produces. -/
inductive TxCause
  | noFault | empty | tooLong
  deriving DecidableEq, Repr

/-- RX_CAUSE (10_state.md R18): the codes that RXD produces. -/
inductive RxCause
  | noFault | invalidCrc | invalidTerminator
  deriving DecidableEq, Repr

/-- The registers of TXF (10_state.md R12). TX_LEN has the width LENW of its port, here unbounded
(00_scope.md R4). -/
structure TxRegs where
  len : Nat
  phase : TxPhase
  pos : Pos
  cnt : Half
  crc : Half
  status : TxStatus
  cause : TxCause
  flen : Pos
  deriving DecidableEq, Repr

/-- The registers of RXD (10_state.md R14). RX_N has the width LENW of its port, here unbounded. -/
structure RxRegs where
  n : Nat
  mode : ErrMode
  phase : RxPhase
  pos : Pos
  cnt : Half
  marker : Byte
  payidx : BitVec 2
  paylen : Half
  fsize : Pos
  crc : Half
  fcrc : Half
  term : Byte
  flags : BitVec 4
  status : RxStatus
  cause : RxCause
  consumed : Pos
  deriving DecidableEq, Repr

/-- One buffer (10_state.md R22): its capacity in bytes (`none` is the spec's default, unbounded,
00_scope.md R4), and the bytes that have been written, by index, strictly rising. An index that is not
listed has never been written. -/
structure Memory where
  cap : Option Nat
  cells : List Host.Cell
  deriving DecidableEq, Repr

/-- The host actions of 60_exceptions.md R153 to R157. -/
inductive HostAct
  | startTx (txLen : Nat)
  | startRx (rxLen : Nat) (mode : ErrMode)
  | poll (u : CodecUnit)
  | read (target : ReadTarget)
  | writeTxpay (index : Nat) (bytes : List Byte)
  | writeRxbuf (index : Nat) (bytes : List Byte)
  deriving DecidableEq, Repr

/-- Who moves, and with what: one entry of the agenda. -/
inductive Turn
  /-- The host performs one of its actions. -/
  | host (a : HostAct)
  /-- The host has a whole operation performed: the key OPSEL and the value on the length port
  (30_encoding.md R62), at the transaction level (00_scope.md R5). -/
  | op (key : BitVec 2) (len : Nat)
  /-- A unit takes one step of its sequencer; an idle unit takes none. -/
  | unit (u : CodecUnit)
  /-- The reset event (70_reset_and_hazards.md R170). -/
  | reset
  deriving DecidableEq, Repr

/-- The state. -/
structure State where
  /-- The registers of TXF. -/
  tx : TxRegs
  /-- The registers of RXD. -/
  rx : RxRegs
  /-- The buffer TXPAY. -/
  txpay : Memory
  /-- The buffer TXFRM. -/
  txfrm : Memory
  /-- The buffer RXBUF. -/
  rxbuf : Memory
  /-- The buffer RXPAY. -/
  rxpay : Memory
  /-- Model's own: what happens next, first entry first. When it is empty the busy units run on. -/
  agenda : List Turn
  /-- Model's own: what the host's last POLL or READ was answered; `none` before the first. -/
  answer : Option Nat
  /-- Model's own: the host has written TXPAY during the ENCODE in progress (93_implementation_defined.md U4). -/
  txDisturbed : Bool
  /-- Model's own: the host has written RXBUF during the DECODE in progress (U4). -/
  rxDisturbed : Bool
  /-- Model's own: how many free values TXF has read. -/
  txFree : Nat
  /-- Model's own: how many free values RXD has read. -/
  rxFree : Nat
  deriving DecidableEq, Repr

/-- Why the machine stops. The faults that the spec gives the block (60_exceptions.md R140) are no stops:
they are outcomes, recorded in the status and cause registers of a next state. -/
inductive Fault
  /-- An access to an index at or beyond a buffer's capacity: there is no such byte (20_memory.md R38
  bounds every access). Raised by a host READ, WRITE.TXPAY or WRITE.RXBUF that names such an index, and by
  a sequencer step in a state that no run from reset reaches. Safe: the machine stops. It cannot happen
  with the default, unbounded buffers. -/
  | noSuchByte (space : Space) (index : Nat)
  deriving DecidableEq, Repr

/-- Why the model refuses a step. -/
inductive Refusal
  /-- The instruction has no meaning yet. Raised by `exec` alone. Safe: the machine stops. -/
  | notModelled (mnemonic : String)
  /-- A start whose operation does not fit a buffer. The host must not give it and the spec gives it no
  effect: its treatment is `refuse`, with the fit a precondition of START.TX and START.RX
  (93_implementation_defined.md U7; 20_memory.md R38). Raised by START.TX, START.RX, ENCODE,
  DECODE.IGNORE and DECODE.RAISE. Safe: the machine stops. It cannot happen with the default, unbounded
  buffers. -/
  | bufferTooSmall (space : Space)
  deriving DecidableEq, Repr

/-- The registers of TXF after reset (10_state.md R12, column "reset"; 70_reset_and_hazards.md R170). -/
def TxRegs.reset : TxRegs :=
  { len := 0, phase := .idle, pos := 0, cnt := 0, crc := Config.crcParams.init, status := .never,
    cause := .noFault, flen := 0 }

/-- The registers of RXD after reset (10_state.md R14, column "reset"; 70_reset_and_hazards.md R170). -/
def RxRegs.reset : RxRegs :=
  { n := 0, mode := .ignore, phase := .idle, pos := 0, cnt := 0, marker := 0, payidx := 0, paylen := 0,
    fsize := 0, crc := Config.crcParams.init, fcrc := 0, term := 0, flags := 0, status := .never,
    cause := .noFault, consumed := 0 }

/-- A buffer at power-up: unbounded, and nothing written (70_reset_and_hazards.md R172). -/
def Memory.blank : Memory := { cap := none, cells := [] }

/-- The machine right after reset: both units idle with every register at its reset value, nothing written
in any buffer, and no input pending (70_reset_and_hazards.md R170 to R172). -/
def State.reset : State :=
  { tx := TxRegs.reset, rx := RxRegs.reset,
    txpay := Memory.blank, txfrm := Memory.blank, rxbuf := Memory.blank, rxpay := Memory.blank,
    agenda := [], answer := none, txDisturbed := false, rxDisturbed := false, txFree := 0, rxFree := 0 }

end Sys2Proof.Machine
end

