-- ==== Sys2Proof/Machine/Flags.lean ====
section
/-! DEFINITION. RX_FLAGS (10_state.md R20) and the codes that the enumerated registers show the host
(10_state.md R17 to R19). The block has no arithmetic flags (R20). -/

namespace Sys2Proof.Machine

/-- The bit of RX_FLAGS named HDR_OK. -/
def hdrOkBit : Nat := 0
/-- The bit of RX_FLAGS named FRAME_COMPLETE. -/
def frameCompleteBit : Nat := 1
/-- The bit of RX_FLAGS named CRC_OK. -/
def crcOkBit : Nat := 2
/-- The bit of RX_FLAGS named TERM_OK. -/
def termOkBit : Nat := 3

/-- `RX_FLAGS.<bit> <- v`; the other bits keep their values. -/
def setFlag (f : BitVec 4) (bit : Nat) (v : Bool) : BitVec 4 :=
  if v then f ||| (1#4 <<< bit) else f &&& ~~~(1#4 <<< bit)

/-- The flags of a complete frame as D_CHECK leaves them: TERM_OK, CRC_OK, FRAME_COMPLETE, HDR_OK from bit
3 to bit 0 (42_deframer.md R116). -/
def flagsOf (termOk crcOk frameComplete hdrOk : Bool) : BitVec 4 :=
  setFlag (setFlag (setFlag (setFlag 0#4 hdrOkBit hdrOk) frameCompleteBit frameComplete) crcOkBit crcOk)
    termOkBit termOk

/-- The comparison of CRC.CHK: all 16 bits (40_crc.md R76). -/
def crcMatches (computed received : Half) : Bool := computed == received

/-- Is the terminator the constant 0x03 (30_encoding.md R60)? -/
def termMatches (t : Byte) : Bool := t == Config.terminator

/-- The code of TX_STATUS (10_state.md R17). -/
def TxStatus.code : TxStatus → BitVec 2
  | .never => 0#2
  | .busy => 1#2
  | .ok => 2#2
  | .fault => 3#2

/-- The code of RX_STATUS (10_state.md R17). -/
def RxStatus.code : RxStatus → BitVec 3
  | .never => 0#3
  | .busy => 1#3
  | .noFrame => 2#3
  | .accept => 3#3
  | .discard => 4#3
  | .fault => 5#3

/-- The code of TX_CAUSE (10_state.md R18). -/
def TxCause.code : TxCause → BitVec 3
  | .noFault => 0#3
  | .empty => 1#3
  | .tooLong => 2#3

/-- The code of RX_CAUSE (10_state.md R18). -/
def RxCause.code : RxCause → BitVec 3
  | .noFault => 0#3
  | .invalidCrc => 3#3
  | .invalidTerminator => 4#3

/-- The code of the error mode (10_state.md R19). -/
def modeCode : ErrMode → BitVec 1
  | .ignore => 0#1
  | .raise => 1#1

end Sys2Proof.Machine
end

