-- ==== Sys2Proof/Machine/Memory.lean ====
section
/-! DEFINITION. The buffers: reading and writing one byte (20_memory.md R34), and the canonical form of the
list of written bytes. There is no wider access (R32) and no alignment (R33). -/

namespace Sys2Proof.Machine

/-- Does the buffer have a byte at this index? -/
def Memory.holds (m : Memory) (i : Nat) : Bool :=
  match m.cap with
  | none => true
  | some c => i < c

/-- Does the buffer have room for `n` bytes from index 0 upward (20_memory.md R38)? -/
def Memory.fits (m : Memory) (n : Nat) : Bool :=
  match m.cap with
  | none => true
  | some c => n ≤ c

/-- The byte that has been written at an index, if one has. -/
def cellAt : List Host.Cell → Nat → Option Byte
  | [], _ => none
  | (j, b) :: rest, i => if i = j then some b else cellAt rest i

/-- `MemRead(SPACE + i, 1)`: the byte at index `i` (20_memory.md R34). A byte that nothing has written
reads as a free value (93_implementation_defined.md U8). -/
def Memory.read (m : Memory) (sp : Space) (i : Nat) : Byte :=
  (cellAt m.cells i).getD (Config.powerUpByte sp i)

/-- The list of written bytes with the byte at `i` written, its indices still rising. -/
def setCell (i : Nat) (b : Byte) : List Host.Cell → List Host.Cell
  | [] => [(i, b)]
  | (j, c) :: rest =>
    if i < j then (i, b) :: (j, c) :: rest
    else if i = j then (i, b) :: rest
    else (j, c) :: setCell i b rest

/-- `MemWrite(SPACE + i, 1, b)` on an index that exists (20_memory.md R34). -/
def Memory.write (m : Memory) (i : Nat) (b : Byte) : Memory := { m with cells := setCell i b m.cells }

/-- Bytes written one by one in increasing order of index (20_memory.md R35). -/
def Memory.writeBytes (m : Memory) (i : Nat) : List Byte → Memory
  | [] => m
  | b :: rest => (m.write i b).writeBytes (i + 1) rest

/-- `SPACE[i : i + n)`. -/
def Memory.readBytes (m : Memory) (sp : Space) : Nat → Nat → List Byte
  | _, 0 => []
  | i, n + 1 => m.read sp i :: m.readBytes sp (i + 1) n

/-- Are the indices of a list strictly rising, the first at least `low`? -/
def risingFrom (low : Nat) : List Host.Cell → Bool
  | [] => true
  | (j, _) :: rest => low ≤ j && risingFrom (j + 1) rest

/-- Is every listed index one that the buffer has? -/
def withinCap (m : Memory) : Bool := m.cells.all fun c => m.holds c.1

/-- The canonical form: the listed indices rise strictly and exist. An index that is not listed has never
been written and has no value of its own, so no entry can repeat what an unlisted index reads as. -/
def Memory.wf (m : Memory) : Bool := risingFrom 0 m.cells && withinCap m

end Sys2Proof.Machine
end

