-- ==== Sys2Proof/Machine/Operands.lean ====
section
/-! DEFINITION. The operand forms: halves of a 16-bit register, the bytes of a length, the windows of the
input buffers, and what READ and POLL deliver (10_state.md R12, R14, R19; 60_exceptions.md R155, R156). -/

namespace Sys2Proof.Machine

/-- `REG[15:8] <- b`. -/
def withHigh (v : Half) (b : Byte) : Half := joinBytes b (loByte v)

/-- `REG[7:0] <- b`. -/
def withLow (v : Half) (b : Byte) : Half := joinBytes (hiByte v) b

/-- `TX_LEN[15:8]`. -/
def lenHigh (n : Nat) : Byte := hiByte (BitVec.ofNat 16 n)

/-- `TX_LEN[7:0]`. -/
def lenLow (n : Nat) : Byte := loByte (BitVec.ofNat 16 n)

/-- The format that ENCODE chooses for a payload length (30_encoding.md R58; 41_framer.md R93). -/
def formatFor (len : Nat) : Format := if len < Config.shortLimit then .short else .long

/-- `tx_busy` (10_state.md R19). -/
def txBusy (s : State) : Bool := s.tx.phase != .idle

/-- `rx_busy` (10_state.md R19). -/
def rxBusy (s : State) : Bool := s.rx.phase != .idle

/-- The busy output of a unit. -/
def busy (u : CodecUnit) (s : State) : Bool :=
  match u with
  | .txf => txBusy s
  | .rxd => rxBusy s

/-- TXPAY[0:n): the operand of ENCODE (41_framer.md R92). -/
def payloadOperand (n : Nat) (s : State) : List Byte := s.txpay.readBytes .txpay 0 n

/-- RXBUF[0:n): the operand of DECODE (42_deframer.md R111). -/
def bufferOperand (n : Nat) (s : State) : List Byte := s.rxbuf.readBytes .rxbuf 0 n

/-- The value of a readable register, unsigned (10_state.md R12, R14, R17 to R20). -/
def regValue (r : Reg) (s : State) : Nat :=
  match r with
  | .txLen => s.tx.len
  | .txPos => s.tx.pos.toNat
  | .txCnt => s.tx.cnt.toNat
  | .txCrc => s.tx.crc.toNat
  | .txStatus => s.tx.status.code.toNat
  | .txCause => s.tx.cause.code.toNat
  | .txFlen => s.tx.flen.toNat
  | .rxN => s.rx.n
  | .rxMode => (modeCode s.rx.mode).toNat
  | .rxPos => s.rx.pos.toNat
  | .rxCnt => s.rx.cnt.toNat
  | .rxMarker => s.rx.marker.toNat
  | .rxPayidx => s.rx.payidx.toNat
  | .rxPaylen => s.rx.paylen.toNat
  | .rxFsize => s.rx.fsize.toNat
  | .rxCrc => s.rx.crc.toNat
  | .rxFcrc => s.rx.fcrc.toNat
  | .rxTerm => s.rx.term.toNat
  | .rxFlags => s.rx.flags.toNat
  | .rxStatus => s.rx.status.code.toNat
  | .rxCause => s.rx.cause.code.toNat
  | .rxConsumed => s.rx.consumed.toNat

end Sys2Proof.Machine
end

