-- ==== Sys2Proof/Machine/Ops.lean ====
section
/-! DEFINITION. The shared operations: the CRC engine (40_crc.md), the primitives `emit`, `fetch` and
`finish` (41_framer.md R96; 42_deframer.md R120), what a start does (10_state.md R21), raising a fault
(60_exceptions.md R144), and reset (70_reset_and_hazards.md R170). -/

namespace Sys2Proof.Machine

/-- The three outcomes of a step of this machine. -/
abbrev Out := Host.Outcome State Fault Refusal

/-! ### The CRC engine: a pure function of bytes (40_crc.md R70) -/

/-- One of the eight iterations of `crc_upd`: bit 15 is tested before the shift (40_crc.md R72). -/
def crcShift (c : Half) : Half :=
  if c.getLsbD 15 then (c <<< 1) ^^^ Config.crcParams.poly else c <<< 1

/-- `n` iterations. -/
def crcIterate : Nat → Half → Half
  | 0, c => c
  | n + 1, c => crcIterate n (crcShift c)

/-- The byte as the engine takes it: its bits reversed only if CRC_REFIN (00_scope.md R3). -/
def crcIn (b : Byte) : Byte := if Config.crcParams.refin then b.reverse else b

/-- `crc_upd(c, b)` (40_crc.md R72). -/
def crcUpdate (c : Half) (b : Byte) : Half :=
  crcIterate 8 (c ^^^ ((crcIn b).zeroExtend 16 <<< 8))

/-- The bytes of a sequence folded into an accumulator in index order (40_crc.md R74, R77 (b)). -/
def crcFold (c : Half) (s : List Byte) : Half := s.foldl crcUpdate c

/-- The accumulator as a result (00_scope.md R3; 40_crc.md R74). -/
def crcOut (c : Half) : Half :=
  (if Config.crcParams.refout then c.reverse else c) ^^^ Config.crcParams.xorout

/-- `CRC16(s)` (40_crc.md R74). -/
def crcOf (s : List Byte) : Half := crcOut (crcFold Config.crcParams.init s)

/-- The accumulator of a unit, TX_CRC or RX_CRC (40_crc.md R70). -/
def accOf (u : CodecUnit) (s : State) : Half :=
  match u with
  | .txf => s.tx.crc
  | .rxd => s.rx.crc

/-- `ACC <- v`. -/
def setAcc (u : CodecUnit) (v : Half) (s : State) : State :=
  match u with
  | .txf => { s with tx := { s.tx with crc := v } }
  | .rxd => { s with rx := { s.rx with crc := v } }

/-- The operation CRC.CLR (40_crc.md R71). -/
def clearAcc (u : CodecUnit) (s : State) : State := setAcc u Config.crcParams.init s

/-- The operation CRC.UPD (40_crc.md R72). -/
def updateAcc (u : CodecUnit) (b : Byte) (s : State) : State := setAcc u (crcUpdate (accOf u s) b) s

/-- CRC.UPD for every byte of a sequence, in index order (40_crc.md R74). -/
def updateAccBytes (u : CodecUnit) : List Byte → State → State
  | [], s => s
  | b :: rest, s => updateAccBytes u rest (updateAcc u b s)

/-- The operation CRC.CHK: RX_FLAGS.CRC_OK becomes whether RX_CRC equals RX_FCRC (40_crc.md R76). -/
def checkCrc (s : State) : State :=
  { s with rx := { s.rx with flags := setFlag s.rx.flags crcOkBit (crcMatches s.rx.crc s.rx.fcrc) } }

/-! ### Faults: what a raise does (60_exceptions.md R140, R144) -/

/-- The two error kinds (60_exceptions.md R140). -/
inductive ErrorKind
  | invalidPayload
  | corruptPacket
  deriving DecidableEq, Repr

/-- The four faults of the block (60_exceptions.md R140). -/
inductive FaultCause
  | empty
  | tooLong
  | invalidCrc
  | invalidTerminator
  deriving DecidableEq, Repr

/-- The kind of a fault (60_exceptions.md R140). -/
def FaultCause.kind : FaultCause → ErrorKind
  | .empty => .invalidPayload
  | .tooLong => .invalidPayload
  | .invalidCrc => .corruptPacket
  | .invalidTerminator => .corruptPacket

/-- TXF raises: the status is FAULT with the cause, no frame length is delivered, and the unit is idle in
the same step (60_exceptions.md R144 (a) to (c)). -/
def raiseTx (c : TxCause) (s : State) : State :=
  { s with tx := { s.tx with status := .fault, cause := c, flen := 0, phase := .idle } }

/-- RXD raises: the status is FAULT with the cause, nothing is consumed, and the unit is idle in the same
step (60_exceptions.md R144 (a) to (c)). -/
def raiseRx (c : RxCause) (s : State) : State :=
  { s with rx := { s.rx with status := .fault, cause := c, consumed := 0, phase := .idle } }

/-- `raise K(c)`, the block's taking of an exception (60_exceptions.md R144): the fault is recorded in the
unit that raises it, which goes idle, and nothing else changes. There is no vector, no saved address and
no handler, hence no return from one (R149): the next start of the unit is what follows a fault. -/
def raiseFault (c : FaultCause) (s : State) : State :=
  match c with
  | .empty => raiseTx .empty s
  | .tooLong => raiseTx .tooLong s
  | .invalidCrc => raiseRx .invalidCrc s
  | .invalidTerminator => raiseRx .invalidTerminator s

/-! ### The primitives of the sequencers -/

/-- `emit(b)` (41_framer.md R96): a byte to TXFRM at TX_POS, and TX_POS advances; then the rest of the
step, `k`. -/
def emitThen (b : Byte) (s : State) (k : State → State) : Out :=
  if s.txfrm.holds s.tx.pos.toNat then
    .next (k { s with txfrm := s.txfrm.write s.tx.pos.toNat b, tx := { s.tx with pos := s.tx.pos + 1 } })
  else .fault (.noSuchByte .txfrm s.tx.pos.toNat)

/-- `MemRead(TXPAY + i, 1)` as TXF sees it: the byte of the snapshot, or a free value where the host has
broken the snapshot rule (20_memory.md R40; 93_implementation_defined.md U4). -/
def txpayByte (s : State) (i : Nat) : Byte :=
  if s.txDisturbed then Config.disturbedByte .txf s.txFree else s.txpay.read .txpay i

/-- One read of TXF is over: a free value that has been used is used up. -/
def txReadDone (s : State) : State := if s.txDisturbed then { s with txFree := s.txFree + 1 } else s

/-- `MemRead(RXBUF + i, 1)` as RXD sees it. -/
def rxbufByte (s : State) (i : Nat) : Byte :=
  if s.rxDisturbed then Config.disturbedByte .rxd s.rxFree else s.rxbuf.read .rxbuf i

/-- One read of RXD is over. -/
def rxReadDone (s : State) : State := if s.rxDisturbed then { s with rxFree := s.rxFree + 1 } else s

/-- The state after `fetch()` (42_deframer.md R120): RX_POS has advanced. -/
def fetched (s : State) : State :=
  rxReadDone { s with rx := { s.rx with pos := s.rx.pos + 1 } }

/-- `fetch()` (42_deframer.md R120): the byte of RXBUF at RX_POS, and RX_POS advances; then the rest of
the step, `k`. -/
def fetchThen (s : State) (k : Byte → State → Out) : Out :=
  if s.rxbuf.holds s.rx.pos.toNat then k (rxbufByte s s.rx.pos.toNat) (fetched s)
  else .fault (.noSuchByte .rxbuf s.rx.pos.toNat)

/-- `finish(status, cause, consumed)` (42_deframer.md R120) with cause 0: the outcomes that are no fault. -/
def rxFinish (st : RxStatus) (consumed : Pos) (s : State) : State :=
  { s with rx := { s.rx with status := st, cause := .noFault, consumed := consumed, phase := .idle } }

/-! ### Starts and reset -/

/-- The registers of TXF after `tx_start` (10_state.md R21). -/
def TxRegs.started (n : Nat) : TxRegs :=
  { len := n, phase := .check, pos := 0, cnt := 0, crc := Config.crcParams.init, status := .busy,
    cause := .noFault, flen := 0 }

/-- The registers of RXD after `rx_start` (10_state.md R21). -/
def RxRegs.started (n : Nat) (mode : ErrMode) : RxRegs :=
  { n := n, mode := mode, phase := .mark, pos := 0, cnt := 0, marker := 0, payidx := 0, paylen := 0,
    fsize := 0, crc := Config.crcParams.init, fcrc := 0, term := 0, flags := 0, status := .busy,
    cause := .noFault, consumed := 0 }

/-- `tx_start`, taken (10_state.md R21; 41_framer.md R97): the accumulator is cleared by CRC.CLR, and a new
snapshot begins (20_memory.md R40). -/
def txStarted (n : Nat) (s : State) : State :=
  clearAcc .txf { s with tx := TxRegs.started n, txDisturbed := false }

/-- `rx_start`, taken (10_state.md R21; 42_deframer.md R121). -/
def rxStarted (n : Nat) (mode : ErrMode) (s : State) : State :=
  clearAcc .rxd { s with rx := RxRegs.started n mode, rxDisturbed := false }

/-- The buffer that is too small for an ENCODE of `n` bytes, if one is (20_memory.md R38;
93_implementation_defined.md U7). A length that ENCODE faults on touches no buffer (20_memory.md R35). -/
def txTooSmall (n : Nat) (s : State) : Option Space :=
  if n = 0 ∨ Config.lenLimit ≤ n then none
  else if !s.txpay.fits n then some .txpay
  else if !s.txfrm.fits (frameSize (formatFor n) n) then some .txfrm
  else none

/-- Is RXPAY too small for the DECODE of this snapshot: is there a complete frame whose payload it cannot
hold (20_memory.md R38; 93_implementation_defined.md U7)? -/
def payloadDoesNotFit (n : Nat) (s : State) : Bool :=
  match decodeHeader (bufferOperand (min n 3) s) with
  | .error _ => false
  | .ok (f, len) => frameSize f len ≤ n && !s.rxpay.fits len

/-- The buffer that is too small for a DECODE of `n` bytes, if one is. -/
def rxTooSmall (n : Nat) (s : State) : Option Space :=
  if s.rxpay.cap.isNone then none
  else if payloadDoesNotFit n s then some .rxpay
  else none

/-- May a `tx_start` be taken (41_framer.md R97)? -/
def txTakes (s : State) : Bool := !txBusy s

/-- May an `rx_start` be taken (42_deframer.md R121)? -/
def rxTakes (n : Nat) (s : State) : Bool := !rxBusy s && s.rxbuf.fits n

/-- A `tx_start` with the operation that follows it, `k`. A start that is not taken has no effect whatever
(60_exceptions.md R158); one whose operation does not fit a buffer is refused (93_implementation_defined.md U7). -/
def startTxThen (n : Nat) (s : State) (k : State → State) : Out :=
  if txTakes s then
    match txTooSmall n s with
    | some sp => .refused (.bufferTooSmall sp)
    | none => .next (k (txStarted n s))
  else .next s

/-- An `rx_start` with the operation that follows it, `k`, under the same terms. -/
def startRxThen (n : Nat) (mode : ErrMode) (s : State) (k : State → State) : Out :=
  if rxTakes n s then
    match rxTooSmall n s with
    | some sp => .refused (.bufferTooSmall sp)
    | none => .next (k (rxStarted n mode s))
  else .next s

/-- The reset event (70_reset_and_hazards.md R170, R172, R173): every register of both units takes its
reset value, an operation in progress is abandoned, and no buffer is touched. -/
def resetBlock (s : State) : State :=
  { s with tx := TxRegs.reset, rx := RxRegs.reset, txDisturbed := false, rxDisturbed := false }

/-! ### The host's accesses to the buffers -/

/-- The first index of a run of bytes that a buffer does not have, if there is one. -/
def Memory.missing (m : Memory) (i n : Nat) : Option Nat :=
  match m.cap with
  | none => none
  | some c => if i + n ≤ c ∨ n = 0 then none else some (max i c)

/-- The answer of a POLL or a READ reaches the host; the block does not change (60_exceptions.md R155, R156). -/
def answerHost (v : Nat) (s : State) : State := { s with answer := some v }

end Sys2Proof.Machine
end

