-- ==== Sys2Proof/Machine/Crc.lean ====
section
/-! DEFINITION. The meanings of the CRC micro-operations (40_crc.md). The host cannot select them
(30_encoding.md R62): the starts issue CRC.CLR, the phases T_PAY and D_PAY issue CRC.UPD, D_CHECK issues
CRC.CHK, and CRC16 is what a unit's accumulator holds after its last payload byte. -/

namespace Sys2Proof.Machine

/-- CRC.CLR (40_crc.md R71): `ACC <- CRC_INIT`, whatever it held. -/
def execCrcClr (u : CodecUnit) (s : State) : Out := .next (clearAcc u s)

/-- CRC.UPD (40_crc.md R72): `ACC <- crc_upd(ACC, b)`. -/
def execCrcUpd (u : CodecUnit) (b : Byte) (s : State) : Out := .next (updateAcc u b s)

/-- CRC16 (40_crc.md R74): CRC.CLR, then CRC.UPD for every byte in index order. -/
def execCrc16 (u : CodecUnit) (bytes : List Byte) (s : State) : Out :=
  .next (updateAccBytes u bytes (clearAcc u s))

/-- CRC.CHK (40_crc.md R76): the result goes to RX_FLAGS.CRC_OK; it raises nothing. -/
def execCrcChk (s : State) : Out := .next (checkCrc s)

end Sys2Proof.Machine
end

