-- ==== Sys2Proof/Machine/Deframer.lean ====
section
/-! DEFINITION. The receive direction (42_deframer.md): DECODE at the transaction level (R110 to R119), its
effect on the registers (R116, R131), the marker dispatch of D_MARK as the meanings of the frame and
reserved-marker rows (30_encoding.md R55, R57), and the other steps of the sequencer RXD (R123 to R130). -/

namespace Sys2Proof.Machine

/-! ### DECODE at the transaction level -/

/-- `DecOutcome` (00_scope.md section 7; 42_deframer.md R111). -/
inductive DecOutcome
  | noFrame
  | accept (payload : List Byte) (consumed : Nat)
  | discard (consumed : Nat)
  | fault (c : FaultCause)
  deriving DecidableEq, Repr

/-- The size of a frame that has been taken apart. -/
def frameTotal (f : Frame) : Nat := frameSize f.format f.payload.length

/-- Steps 5 to 7 of DECODE on a complete frame: the CRC first, then the terminator (42_deframer.md R112,
R115; 90_conflicts.md C1). -/
def judge (f : Frame) (mode : ErrMode) : DecOutcome :=
  if crcMatches (crcOf f.payload) f.crc then
    if termMatches f.term then .accept f.payload (frameTotal f) else .fault .invalidTerminator
  else
    match mode with
    | .ignore => .discard (frameTotal f)
    | .raise => .fault .invalidCrc

/-- DECODE (42_deframer.md R112). -/
def decodeBuffer (buffer : List Byte) (mode : ErrMode) : DecOutcome :=
  match decodeFrame buffer with
  | .error _ => .noFrame
  | .ok f => judge f mode

/-- `bytes_consumed` (42_deframer.md R119). -/
def DecOutcome.consumed : DecOutcome → Nat
  | .noFrame => 0
  | .accept _ n => n
  | .discard n => n
  | .fault _ => 0

/-- The end of a DECODE: status, cause, count, and the unit idle (42_deframer.md R131). -/
def deliverOutcome (o : DecOutcome) (s : State) : State :=
  match o with
  | .noFrame => rxFinish .noFrame 0 s
  | .accept _ n => rxFinish .accept (BitVec.ofNat 17 n) s
  | .discard n => rxFinish .discard (BitVec.ofNat 17 n) s
  | .fault c => raiseFault c s

/-- `payload_index` as RX_PAYIDX holds it. -/
def payidxOf (f : Format) : BitVec 2 := BitVec.ofNat 2 f.headerSize

/-- RX_PAYLEN when the header is incomplete: the high byte if a long header has shown it, else 0
(42_deframer.md R131). -/
def partialLen (f : Format) (present : List Byte) : Half :=
  match f with
  | .short => 0
  | .long => joinBytes (present.headD 0) 0

/-- The working registers at the end of a DECODE that found no complete frame, from those its start left
(42_deframer.md R116, R131). -/
def rejectRegs (e : FrameReject) (r : RxRegs) : RxRegs :=
  match e with
  | .empty => r
  | .unknownMarker b => { r with marker := b, pos := 1 }
  | .headerShort f present =>
    { r with
      marker := f.marker
      payidx := payidxOf f
      paylen := partialLen f present
      pos := BitVec.ofNat 17 (present.length + 1) }
  | .sizeShort f len =>
    { r with
      marker := f.marker
      payidx := payidxOf f
      paylen := BitVec.ofNat 16 len
      fsize := BitVec.ofNat 17 (frameSize f len)
      flags := flagsOf false false false true
      pos := BitVec.ofNat 17 f.headerSize }

/-- The working registers at the end of a DECODE of a complete frame (42_deframer.md R116, R131). -/
def frameRegs (f : Frame) (r : RxRegs) : RxRegs :=
  { r with
    marker := f.format.marker
    payidx := payidxOf f.format
    paylen := BitVec.ofNat 16 f.payload.length
    fsize := BitVec.ofNat 17 (frameTotal f)
    crc := crcOf f.payload
    fcrc := f.crc
    term := f.term
    flags := flagsOf (termMatches f.term) (crcMatches (crcOf f.payload) f.crc) true true
    cnt := BitVec.ofNat 16 f.payload.length
    pos := BitVec.ofNat 17 (frameTotal f) }

/-- The whole DECODE of RXBUF[0:n), from the state its start left. The payload window is in RXPAY whenever
the frame is complete, accepted or not (20_memory.md R36). -/
def performDecode (n : Nat) (mode : ErrMode) (s : State) : State :=
  match decodeFrame (bufferOperand n s) with
  | .error e => deliverOutcome .noFrame { s with rx := rejectRegs e s.rx }
  | .ok f =>
    deliverOutcome (judge f mode)
      { s with rx := frameRegs f s.rx, rxpay := s.rxpay.writeBytes 0 f.payload }

/-- DECODE.IGNORE: `rx_start` with `n` on `rx_len` and `rx_mode` = 0, and the operation to its end
(42_deframer.md R112). -/
def execDecodeIgnore (n : Nat) (s : State) : Out :=
  startRxThen n .ignore s (performDecode n .ignore)

/-- DECODE.RAISE: the same with `rx_mode` = 1 (42_deframer.md R112). -/
def execDecodeRaise (n : Nat) (s : State) : Out :=
  startRxThen n .raise s (performDecode n .raise)

/-! ### The marker rows: what D_MARK does with the byte it has fetched -/

/-- `RX_PHASE <- P`. -/
def rxGoto (p : RxPhase) (s : State) : State := { s with rx := { s.rx with phase := p } }

/-- A marker that selects a format: RX_MARKER and RX_PAYIDX are written, and the header's length byte or
bytes are next (42_deframer.md R122; 30_encoding.md R55). -/
def dispatchFormat (f : Format) (next : RxPhase) (s : State) : State :=
  { s with rx := { s.rx with marker := f.marker, payidx := payidxOf f, phase := next } }

/-- A marker that selects no format: NoFrame with nothing consumed, no fault, and no later byte is read
(30_encoding.md R57; 42_deframer.md R122). -/
def dispatchReserved (b : Byte) (s : State) : State :=
  rxFinish .noFrame 0 { s with rx := { s.rx with marker := b } }

/-- FRAME.SHORT (30_encoding.md R51, R55): one length byte follows. -/
def execFrameShort (s : State) : Out := .next (dispatchFormat .short .lenl s)

/-- FRAME.LONG (30_encoding.md R52, R55): two length bytes follow. -/
def execFrameLong (s : State) : Out := .next (dispatchFormat .long .lenh s)

/-- MARKER.RESERVED.0 (30_encoding.md R57). -/
def execMarkerReserved0 (b : Byte) (s : State) : Out := .next (dispatchReserved b s)

/-- MARKER.RESERVED.1 (30_encoding.md R57). -/
def execMarkerReserved1 (b : Byte) (s : State) : Out := .next (dispatchReserved b s)

/-- MARKER.RESERVED.2 (30_encoding.md R57). -/
def execMarkerReserved2 (b : Byte) (s : State) : Out := .next (dispatchReserved b s)

/-- MARKER.RESERVED.3 (30_encoding.md R57). -/
def execMarkerReserved3 (b : Byte) (s : State) : Out := .next (dispatchReserved b s)

/-- MARKER.RESERVED.4 (30_encoding.md R57). -/
def execMarkerReserved4 (b : Byte) (s : State) : Out := .next (dispatchReserved b s)

/-- MARKER.RESERVED.5 (30_encoding.md R57). -/
def execMarkerReserved5 (b : Byte) (s : State) : Out := .next (dispatchReserved b s)

/-- MARKER.RESERVED.6 (30_encoding.md R57). -/
def execMarkerReserved6 (b : Byte) (s : State) : Out := .next (dispatchReserved b s)

/-! ### The steps of RXD -/

/-- Step D_MARK (42_deframer.md R122): an empty snapshot ends the operation; otherwise byte 0 is fetched,
and the row that it selects is run. -/
def rxMark (run : Instr → State → Out) (s : State) : Out :=
  if s.rx.n = 0 then .next (rxFinish .noFrame 0 s)
  else fetchThen s fun b s => run (decodeMarker b) s

/-- Steps D_LENH and D_LENL where the header is incomplete: RX_POS has reached RX_N (42_deframer.md R123,
R124). Otherwise the next header byte is fetched, and `k` is done with it. -/
def headerThen (s : State) (k : Byte → State → State) : Out :=
  if s.rx.n ≤ s.rx.pos.toNat then .next (rxFinish .noFrame 0 s)
  else fetchThen s fun b s => .next (k b s)

/-- Step D_LENH (42_deframer.md R123). -/
def rxLenh (s : State) : Out :=
  headerThen s fun b s => rxGoto .lenl { s with rx := { s.rx with paylen := withHigh s.rx.paylen b } }

/-- Step D_LENL (42_deframer.md R124). -/
def rxLenl (s : State) : Out :=
  headerThen s fun b s => rxGoto .size { s with rx := { s.rx with paylen := withLow s.rx.paylen b } }

/-- The 17-bit sum of D_SIZE (42_deframer.md R125). -/
def sizeSum (payidx : BitVec 2) (paylen : Half) : Pos :=
  payidx.zeroExtend 17 + paylen.zeroExtend 17 + BitVec.ofNat 17 Config.footerSize

/-- Step D_SIZE (42_deframer.md R125): `frame_size` from the header alone, and whether the snapshot holds
the whole frame. It reads no byte. -/
def rxSize (s : State) : Out :=
  let fs := sizeSum s.rx.payidx s.rx.paylen
  let s := { s with rx := { s.rx with fsize := fs, flags := setFlag s.rx.flags hdrOkBit true } }
  if s.rx.n < fs.toNat then .next (rxFinish .noFrame 0 s)
  else
    let s := { s with rx := { s.rx with flags := setFlag s.rx.flags frameCompleteBit true } }
    .next (rxGoto (if s.rx.paylen = 0 then .crch else .pay) s)

/-- The register effects of D_PAY once its byte is in RXPAY: CRC.UPD, RX_CNT advances, and the phase moves
on with the last byte (42_deframer.md R126). -/
def rxPaid (b : Byte) (s : State) : State :=
  let s := updateAcc .rxd b s
  let cnt := s.rx.cnt + 1
  { s with rx := { s.rx with
      cnt := cnt
      phase := if cnt = s.rx.paylen then .crch else s.rx.phase } }

/-- Step D_PAY (42_deframer.md R126): one payload byte fetched, copied unchanged and folded into the CRC. -/
def rxPay (s : State) : Out :=
  fetchThen s fun b s =>
    if s.rxpay.holds s.rx.cnt.toNat then
      .next (rxPaid b { s with rxpay := s.rxpay.write s.rx.cnt.toNat b })
    else .fault (.noSuchByte .rxpay s.rx.cnt.toNat)

/-- Step D_CRCH (42_deframer.md R127). -/
def rxCrch (s : State) : Out :=
  fetchThen s fun b s => .next (rxGoto .crcl { s with rx := { s.rx with fcrc := withHigh s.rx.fcrc b } })

/-- Step D_CRCL (42_deframer.md R128). -/
def rxCrcl (s : State) : Out :=
  fetchThen s fun b s => .next (rxGoto .term { s with rx := { s.rx with fcrc := withLow s.rx.fcrc b } })

/-- Step D_TERM (42_deframer.md R129). -/
def rxTerm (s : State) : Out :=
  fetchThen s fun b s => .next (rxGoto .check { s with rx := { s.rx with term := b } })

/-- Step D_CHECK (42_deframer.md R130): CRC.CHK, the terminator's flag whatever the CRC's, and the verdict,
the CRC first. It reads no byte. -/
def rxCheck (s : State) : Out :=
  let s := checkCrc s
  let s := { s with rx := { s.rx with flags := setFlag s.rx.flags termOkBit (termMatches s.rx.term) } }
  if crcMatches s.rx.crc s.rx.fcrc then
    if termMatches s.rx.term then .next (rxFinish .accept s.rx.fsize s)
    else .next (raiseFault .invalidTerminator s)
  else
    match s.rx.mode with
    | .ignore => .next (rxFinish .discard s.rx.fsize s)
    | .raise => .next (raiseFault .invalidCrc s)

/-- One step of RXD: that of its phase; an idle unit takes none (42_deframer.md R120). The argument runs
the row that D_MARK dispatches to: it is `exec`. -/
def rxStep (run : Instr → State → Out) (s : State) : Out :=
  match s.rx.phase with
  | .idle => .next s
  | .mark => rxMark run s
  | .lenh => rxLenh s
  | .lenl => rxLenl s
  | .size => rxSize s
  | .pay => rxPay s
  | .crch => rxCrch s
  | .crcl => rxCrcl s
  | .term => rxTerm s
  | .check => rxCheck s

end Sys2Proof.Machine
end

