-- ==== Sys2Proof/Machine/Framer.lean ====
section
/-! DEFINITION. The transmit direction (41_framer.md): ENCODE at the transaction level (R90 to R93), its
effect on the registers (R105), and the steps of the sequencer TXF (R97 to R104). -/

namespace Sys2Proof.Machine

/-! ### ENCODE at the transaction level -/

/-- `EncOutcome` (00_scope.md section 7). -/
inductive EncOutcome
  | frame (bytes : List Byte)
  | fault (c : FaultCause)
  deriving DecidableEq, Repr

/-- The faults of ENCODE, decided on the length alone (41_framer.md R91). -/
def encodeFault (len : Nat) : Option FaultCause :=
  if len = 0 then some .empty
  else if Config.lenLimit ≤ len then some .tooLong
  else none

/-- The frame that carries a payload: header by length, CRC over the payload only, terminator
(41_framer.md R92). -/
def frameFor (payload : List Byte) : Frame :=
  { format := formatFor payload.length, payload := payload, crc := crcOf payload, term := Config.terminator }

/-- ENCODE (41_framer.md R92). -/
def encodePayload (payload : List Byte) : EncOutcome :=
  match encodeFault payload.length with
  | some c => .fault c
  | none => .frame (encodeFrame (frameFor payload))

/-- What a successful ENCODE of `payload` leaves, from the state its start left: the frame in TXFRM and
the registers of 41_framer.md R105. -/
def deliverFrame (payload : List Byte) (s : State) : State :=
  let bytes := encodeFrame (frameFor payload)
  { s with
    txfrm := s.txfrm.writeBytes 0 bytes
    tx := { s.tx with
      pos := BitVec.ofNat 17 bytes.length
      cnt := BitVec.ofNat 16 payload.length
      crc := crcOf payload
      status := .ok
      cause := .noFault
      flen := BitVec.ofNat 17 bytes.length
      phase := .idle } }

/-- The whole ENCODE of TXPAY[0:n), from the state its start left (41_framer.md R92, R105). -/
def performEncode (n : Nat) (s : State) : State :=
  match encodeFault n with
  | some c => raiseFault c s
  | none => deliverFrame (payloadOperand n s) s

/-- ENCODE: `tx_start` with `n` on `tx_len`, and the operation to its end (41_framer.md R92, R105). -/
def execEncodeOp (n : Nat) (s : State) : Out := startTxThen n s (performEncode n)

/-! ### The steps of TXF -/

/-- `TX_PHASE <- P`. -/
def txGoto (p : TxPhase) (s : State) : State := { s with tx := { s.tx with phase := p } }

/-- Step T_CHECK (41_framer.md R98). -/
def txCheck (s : State) : Out :=
  if s.tx.len = 0 then .next (raiseFault .empty s)
  else if Config.lenLimit ≤ s.tx.len then .next (raiseFault .tooLong s)
  else .next (txGoto .mark s)

/-- Step T_MARK (41_framer.md R99): the header dispatch on the transmit side. -/
def txMark (s : State) : Out :=
  if s.tx.len < Config.shortLimit then emitThen Config.markerShort s (txGoto .lenl)
  else emitThen Config.markerLong s (txGoto .lenh)

/-- Step T_LENH (41_framer.md R100). -/
def txLenh (s : State) : Out := emitThen (lenHigh s.tx.len) s (txGoto .lenl)

/-- Step T_LENL (41_framer.md R101). -/
def txLenl (s : State) : Out := emitThen (lenLow s.tx.len) s (txGoto .pay)

/-- The register effects of T_PAY once its byte has been emitted: CRC.UPD, TX_CNT advances, and the phase
moves on with the last byte (41_framer.md R102). -/
def txPaid (b : Byte) (s : State) : State :=
  let s := updateAcc .txf b s
  let cnt := s.tx.cnt + 1
  { s with tx := { s.tx with
      cnt := cnt
      phase := if cnt.toNat = s.tx.len then .crch else s.tx.phase } }

/-- Step T_PAY (41_framer.md R102): one payload byte read, emitted unchanged and folded into the CRC. -/
def txPay (s : State) : Out :=
  if s.txpay.holds s.tx.cnt.toNat then
    emitThen (txpayByte s s.tx.cnt.toNat) (txReadDone s) (txPaid (txpayByte s s.tx.cnt.toNat))
  else .fault (.noSuchByte .txpay s.tx.cnt.toNat)

/-- Step T_CRCH (41_framer.md R103). -/
def txCrch (s : State) : Out := emitThen (hiByte s.tx.crc) s (txGoto .crcl)

/-- Step T_CRCL (41_framer.md R103). -/
def txCrcl (s : State) : Out := emitThen (loByte s.tx.crc) s (txGoto .term)

/-- Step T_TERM once the terminator has been emitted: the frame's length and the outcome (41_framer.md R104). -/
def txDone (s : State) : State :=
  { s with tx := { s.tx with flen := s.tx.pos, status := .ok, phase := .idle } }

/-- Step T_TERM (41_framer.md R104). -/
def txTerm (s : State) : Out := emitThen Config.terminator s txDone

/-- One step of TXF: that of its phase; an idle unit takes none (41_framer.md R96; 60_exceptions.md R164). -/
def txStep (s : State) : Out :=
  match s.tx.phase with
  | .idle => .next s
  | .check => txCheck s
  | .mark => txMark s
  | .lenh => txLenh s
  | .lenl => txLenl s
  | .pay => txPay s
  | .crch => txCrch s
  | .crcl => txCrcl s
  | .term => txTerm s

end Sys2Proof.Machine
end

