-- ==== Sys2Proof/Machine/HostPort.lean ====
section
/-! DEFINITION. The meanings of the host actions (60_exceptions.md R153 to R158). -/

namespace Sys2Proof.Machine

/-- START.TX (60_exceptions.md R153; 41_framer.md R97). -/
def execStartTx (n : Nat) (s : State) : Out := startTxThen n s id

/-- START.RX (60_exceptions.md R154; 42_deframer.md R121). -/
def execStartRx (n : Nat) (mode : ErrMode) (s : State) : Out := startRxThen n mode s id

/-- POLL (60_exceptions.md R155): the host reads `tx_busy` or `rx_busy`. -/
def execPoll (u : CodecUnit) (s : State) : Out := .next (answerHost (if busy u s then 1 else 0) s)

/-- A READ of a byte of an output buffer. -/
def readOutput (sp : Space) (m : Memory) (i : Nat) (s : State) : Out :=
  if m.holds i then .next (answerHost (m.read sp i).toNat s) else .fault (.noSuchByte sp i)

/-- READ (60_exceptions.md R156): a register, or a byte of TXFRM or RXPAY; reading changes nothing in the
block. -/
def execRead (t : ReadTarget) (s : State) : Out :=
  match t with
  | .reg r => .next (answerHost (regValue r s) s)
  | .txfrm i => readOutput .txfrm s.txfrm i s
  | .rxpay i => readOutput .rxpay s.rxpay i s

/-- WRITE.TXPAY (60_exceptions.md R157): the bytes are in TXPAY. The host may do this only while TXF is
idle; if it does it during an ENCODE, what TXF reads from then on is any value
(93_implementation_defined.md U4). -/
def execWriteTxpay (i : Nat) (bytes : List Byte) (s : State) : Out :=
  match s.txpay.missing i bytes.length with
  | some j => .fault (.noSuchByte .txpay j)
  | none =>
    .next { s with
      txpay := s.txpay.writeBytes i bytes
      txDisturbed := s.txDisturbed || (txBusy s && !bytes.isEmpty) }

/-- WRITE.RXBUF (60_exceptions.md R157): the same for RXBUF and RXD. -/
def execWriteRxbuf (i : Nat) (bytes : List Byte) (s : State) : Out :=
  match s.rxbuf.missing i bytes.length with
  | some j => .fault (.noSuchByte .rxbuf j)
  | none =>
    .next { s with
      rxbuf := s.rxbuf.writeBytes i bytes
      rxDisturbed := s.rxDisturbed || (rxBusy s && !bytes.isEmpty) }

end Sys2Proof.Machine
end

