-- ==== Sys2Proof/Machine/Dispatch.lean ====
section
/-! DEFINITION. The dispatch: one arm for each constructor of `Instr`, each one direct call of its meaning. -/

namespace Sys2Proof.Machine

def exec (i : Instr) (s : State) : Host.Outcome State Fault Refusal :=
  match i with
  | .frameShort => Sys2Proof.Machine.execFrameShort s
  | .frameLong => Sys2Proof.Machine.execFrameLong s
  | .markerReserved0 b => Sys2Proof.Machine.execMarkerReserved0 b s
  | .markerReserved1 b => Sys2Proof.Machine.execMarkerReserved1 b s
  | .markerReserved2 b => Sys2Proof.Machine.execMarkerReserved2 b s
  | .markerReserved3 b => Sys2Proof.Machine.execMarkerReserved3 b s
  | .markerReserved4 b => Sys2Proof.Machine.execMarkerReserved4 b s
  | .markerReserved5 b => Sys2Proof.Machine.execMarkerReserved5 b s
  | .markerReserved6 b => Sys2Proof.Machine.execMarkerReserved6 b s
  | .encodeOp n => Sys2Proof.Machine.execEncodeOp n s
  | .decodeIgnore n => Sys2Proof.Machine.execDecodeIgnore n s
  | .decodeRaise n => Sys2Proof.Machine.execDecodeRaise n s
  | .crcClr u => Sys2Proof.Machine.execCrcClr u s
  | .crcUpd u b => Sys2Proof.Machine.execCrcUpd u b s
  | .crc16 u bytes => Sys2Proof.Machine.execCrc16 u bytes s
  | .crcChk => Sys2Proof.Machine.execCrcChk s
  | .startTx n => Sys2Proof.Machine.execStartTx n s
  | .startRx n mode => Sys2Proof.Machine.execStartRx n mode s
  | .poll u => Sys2Proof.Machine.execPoll u s
  | .read target => Sys2Proof.Machine.execRead target s
  | .writeTxpay index bytes => Sys2Proof.Machine.execWriteTxpay index bytes s
  | .writeRxbuf index bytes => Sys2Proof.Machine.execWriteRxbuf index bytes s

end Sys2Proof.Machine
end

