-- ==== Sys2Proof/Machine/Step.lean ====
section
/-! DEFINITION. One step of the machine: the next entry of the agenda, or, when there is none, a busy unit's
next step (60_exceptions.md R161; 70_reset_and_hazards.md R171, R186). -/

namespace Sys2Proof.Machine

/-- The row of spec/opcode_table.json that a host action is. -/
def HostAct.instr : HostAct → Instr
  | .startTx n => .startTx n
  | .startRx n mode => .startRx n mode
  | .poll u => .poll u
  | .read t => .read t
  | .writeTxpay i bytes => .writeTxpay i bytes
  | .writeRxbuf i bytes => .writeRxbuf i bytes

/-- One turn, in a state from whose agenda it has been taken. -/
def takeTurn (t : Turn) (s : State) : Host.Outcome State Fault Refusal :=
  match t with
  | .host a => exec a.instr s
  | .op key len => exec (decodeOpsel key len) s
  | .unit .txf => txStep s
  | .unit .rxd => rxStep exec s
  | .reset => .next (resetBlock s)

/-- The turn that is next: the first of the agenda; without one, a step of the unit that is busy, TXF
before RXD. With both units idle and nothing on the agenda nobody moves (70_reset_and_hazards.md R171). -/
def nextTurn (s : State) : Turn :=
  match s.agenda with
  | t :: _ => t
  | [] => if txBusy s then .unit .txf else .unit .rxd

/-- The state with the turn that is next taken from its agenda. -/
def popTurn (s : State) : State := { s with agenda := s.agenda.tail }

/-- One step. -/
def step (s : State) : Host.Outcome State Fault Refusal := takeTurn (nextTurn s) (popTurn s)

/-- The instruction that the next step runs, where the next turn runs one: a host action or an operation
on the agenda, or the row that the marker selects when RXD is about to take D_MARK on a snapshot that is
not empty (42_deframer.md R122). -/
def currentInstr (s : State) : Option Instr :=
  match nextTurn s with
  | .host a => some a.instr
  | .op key len => some (decodeOpsel key len)
  | .unit .txf => none
  | .unit .rxd =>
    if s.rx.phase = .mark ∧ s.rx.n ≠ 0 ∧ s.rxbuf.holds s.rx.pos.toNat then
      some (decodeMarker (rxbufByte s s.rx.pos.toNat))
    else none
  | .reset => none

/-- The state in which that instruction runs: its turn is off the agenda, and a marker has been fetched. -/
def atInstr (s : State) : State :=
  match nextTurn s with
  | .host _ => popTurn s
  | .op _ _ => popTurn s
  | .unit .txf => popTurn s
  | .unit .rxd => fetched (popTurn s)
  | .reset => popTurn s

/-- `s` with the instruction of a table row where the next step fetches it. A marker row: the row's bytes
are the whole snapshot in RXBUF, RXD has been started on it and is about to take D_MARK. A row of OPSEL:
the operation is next on the agenda, its length 0. -/
def State.withFetchWord (s : State) (nbits w : Nat) : State :=
  if nbits = 0 then s
  else if nbits < 8 then { s with agenda := .op (BitVec.ofNat 2 w) 0 :: s.agenda }
  else
    { s with
      agenda := .unit .rxd :: s.agenda
      rxbuf := s.rxbuf.writeBytes 0 (bytesOfNat (nbits / 8) w)
      rx := RxRegs.started (nbits / 8) s.rx.mode
      rxDisturbed := false }

end Sys2Proof.Machine
end

