-- ==== Sys2Proof/Safety.lean ====
section
/-! DEFINITION. The terms in which claims about the machine are made: runs, the canonical form of the
buffers, what the registers of a unit satisfy in each phase, and the table of 40_crc.md R73. -/

namespace Sys2Proof.Machine

/-- `k` steps, stopping at the first stop. -/
def steps : Nat → State → Out
  | 0, s => .next s
  | k + 1, s =>
    match step s with
    | .next t => steps k t
    | .fault r => .fault r
    | .refused r => .refused r

/-- The DECODE of a mode (42_deframer.md R110). -/
def decodeInstr (mode : ErrMode) (n : Nat) : Instr :=
  match mode with
  | .ignore => .decodeIgnore n
  | .raise => .decodeRaise n

/-- Is a turn one that can set an idle block in motion or change its registers: a start, a whole operation
or a reset (70_reset_and_hazards.md R171)? -/
def Turn.rouses : Turn → Bool
  | .host (.startTx _) => true
  | .host (.startRx _ _) => true
  | .host (.poll _) => false
  | .host (.read _) => false
  | .host (.writeTxpay _ _) => false
  | .host (.writeRxbuf _ _) => false
  | .op _ _ => true
  | .unit _ => false
  | .reset => true

/-- All four buffers have the canonical form. -/
def BuffersCanonical (s : State) : Prop :=
  s.txpay.wf = true ∧ s.txfrm.wf = true ∧ s.rxbuf.wf = true ∧ s.rxpay.wf = true

/-- No buffer has a bound: the spec's default (00_scope.md R4). -/
def Unbounded (s : State) : Prop :=
  s.txpay.cap = none ∧ s.txfrm.cap = none ∧ s.rxbuf.cap = none ∧ s.rxpay.cap = none

/-- Everything but the registers of TXF, TXFRM and the free values of TXF is the same. -/
def SameButTx (s t : State) : Prop :=
  t.rx = s.rx ∧ t.txpay = s.txpay ∧ t.rxbuf = s.rxbuf ∧ t.rxpay = s.rxpay ∧ t.agenda = s.agenda ∧
    t.answer = s.answer ∧ t.rxDisturbed = s.rxDisturbed ∧ t.rxFree = s.rxFree

/-- Everything but the registers of RXD, RXPAY and the free values of RXD is the same. -/
def SameButRx (s t : State) : Prop :=
  t.tx = s.tx ∧ t.txpay = s.txpay ∧ t.txfrm = s.txfrm ∧ t.rxbuf = s.rxbuf ∧ t.agenda = s.agenda ∧
    t.answer = s.answer ∧ t.txDisturbed = s.txDisturbed ∧ t.txFree = s.txFree

/-! ### The registers of TXF in each phase (41_framer.md R97 to R104) -/

/-- An ENCODE is in progress: no outcome is on record. -/
def TxWorking (r : TxRegs) : Prop := r.status = .busy ∧ r.cause = .noFault ∧ r.flen = 0

/-- An ENCODE is in progress and its length has passed T_CHECK. -/
def TxEmitting (r : TxRegs) : Prop := TxWorking r ∧ 1 ≤ r.len ∧ r.len < Config.lenLimit

/-- The header size of the frame that TXF is emitting. -/
def txHeader (r : TxRegs) : Nat := (formatFor r.len).headerSize

/-- What TXF's registers hold when it is idle: no outcome, a frame of the length on record, or a fault with
the cause that its length explains (10_state.md R17, R18; 41_framer.md R98, R105). -/
def TxAtRest (r : TxRegs) : Prop :=
  (r.status = .never ∧ r.cause = .noFault ∧ r.flen = 0) ∨
  (r.status = .ok ∧ r.cause = .noFault ∧ 1 ≤ r.len ∧ r.len < Config.lenLimit ∧ r.cnt.toNat = r.len ∧
    r.flen = r.pos ∧ r.flen.toNat = frameSize (formatFor r.len) r.len) ∨
  (r.status = .fault ∧ r.flen = 0 ∧ r.pos = 0 ∧ r.cnt = 0 ∧ r.crc = Config.crcParams.init ∧
    (r.cause = .empty ∧ r.len = 0 ∨ r.cause = .tooLong ∧ Config.lenLimit ≤ r.len))

/-- The invariant of TXF's registers, by phase. -/
def TxInv (r : TxRegs) : Prop :=
  match r.phase with
  | .idle => TxAtRest r
  | .check => TxWorking r ∧ r.pos = 0 ∧ r.cnt = 0 ∧ r.crc = Config.crcParams.init
  | .mark => TxEmitting r ∧ r.pos = 0 ∧ r.cnt = 0 ∧ r.crc = Config.crcParams.init
  | .lenh => TxEmitting r ∧ Config.shortLimit ≤ r.len ∧ r.pos.toNat = 1 ∧ r.cnt = 0 ∧ r.crc = Config.crcParams.init
  | .lenl => TxEmitting r ∧ r.pos.toNat + 1 = txHeader r ∧ r.cnt = 0 ∧ r.crc = Config.crcParams.init
  | .pay => TxEmitting r ∧ r.cnt.toNat < r.len ∧ r.pos.toNat = txHeader r + r.cnt.toNat
  | .crch => TxEmitting r ∧ r.cnt.toNat = r.len ∧ r.pos.toNat = txHeader r + r.len
  | .crcl => TxEmitting r ∧ r.cnt.toNat = r.len ∧ r.pos.toNat = txHeader r + r.len + 1
  | .term => TxEmitting r ∧ r.cnt.toNat = r.len ∧ r.pos.toNat = txHeader r + r.len + 2

/-! ### The registers of RXD in each phase (42_deframer.md R121 to R131) -/

/-- A DECODE is in progress: no outcome is on record. -/
def RxWorking (r : RxRegs) : Prop := r.status = .busy ∧ r.cause = .noFault ∧ r.consumed = 0

/-- A DECODE is in progress and no length is known yet: nothing has been counted. -/
def RxInHeader (r : RxRegs) : Prop :=
  RxWorking r ∧ r.cnt = 0 ∧ r.fsize = 0 ∧ r.flags = 0 ∧ r.crc = Config.crcParams.init ∧ r.fcrc = 0 ∧ r.term = 0

/-- A DECODE is in progress and the snapshot holds the whole frame that the header announces. -/
def RxInFrame (r : RxRegs) : Prop :=
  RxWorking r ∧ (r.payidx = 2 ∨ r.payidx = 3) ∧ r.flags = 0b0011#4 ∧
    r.fsize.toNat = r.payidx.toNat + r.paylen.toNat + Config.footerSize ∧ r.fsize.toNat ≤ r.n

/-- What RXD's registers hold when it is idle: status, cause and count agree with one another, the count
is 0 or the size of a complete frame, and no byte beyond the snapshot was read (10_state.md R17, R18;
42_deframer.md R119, R131; 20_memory.md R35). -/
def RxAtRest (r : RxRegs) : Prop :=
  r.pos.toNat ≤ r.n ∧
  ((r.status = .never ∨ r.status = .noFrame) ∧ r.cause = .noFault ∧ r.consumed = 0 ∨
   (r.status = .accept ∨ r.status = .discard) ∧ r.cause = .noFault ∧ r.consumed = r.fsize ∧
     5 ≤ r.fsize.toNat ∧ r.fsize.toNat ≤ r.n ∨
   r.status = .fault ∧ r.cause ≠ .noFault ∧ r.consumed = 0)

/-- The invariant of RXD's registers, by phase. -/
def RxInv (r : RxRegs) : Prop :=
  match r.phase with
  | .idle => RxAtRest r
  | .mark => RxInHeader r ∧ r.pos = 0 ∧ r.marker = 0 ∧ r.payidx = 0 ∧ r.paylen = 0
  | .lenh => RxInHeader r ∧ r.pos = 1 ∧ 1 ≤ r.n ∧ r.payidx = 3 ∧ r.paylen = 0
  | .lenl => RxInHeader r ∧ r.pos.toNat ≤ r.n ∧
      (r.payidx = 2 ∧ r.pos = 1 ∧ r.paylen = 0 ∨ r.payidx = 3 ∧ r.pos = 2 ∧ loByte r.paylen = 0)
  | .size => RxInHeader r ∧ r.pos.toNat ≤ r.n ∧ r.pos.toNat = r.payidx.toNat ∧
      (r.payidx = 2 ∧ hiByte r.paylen = 0 ∨ r.payidx = 3)
  | .pay => RxInFrame r ∧ r.cnt.toNat < r.paylen.toNat ∧ r.pos.toNat = r.payidx.toNat + r.cnt.toNat
  | .crch => RxInFrame r ∧ r.cnt = r.paylen ∧ r.pos.toNat = r.payidx.toNat + r.paylen.toNat
  | .crcl => RxInFrame r ∧ r.cnt = r.paylen ∧ r.pos.toNat = r.payidx.toNat + r.paylen.toNat + 1
  | .term => RxInFrame r ∧ r.cnt = r.paylen ∧ r.pos.toNat = r.payidx.toNat + r.paylen.toNat + 2
  | .check => RxInFrame r ∧ r.cnt = r.paylen ∧ r.pos = r.fsize

/-! ### The table form of CRC.UPD -/

/-- The 256 entries of 40_crc.md R73, as they stand there. -/
def specCrcTable : List Half :=
  [0x0000#16, 0x1021#16, 0x2042#16, 0x3063#16, 0x4084#16, 0x50A5#16, 0x60C6#16, 0x70E7#16,
   0x8108#16, 0x9129#16, 0xA14A#16, 0xB16B#16, 0xC18C#16, 0xD1AD#16, 0xE1CE#16, 0xF1EF#16,
   0x1231#16, 0x0210#16, 0x3273#16, 0x2252#16, 0x52B5#16, 0x4294#16, 0x72F7#16, 0x62D6#16,
   0x9339#16, 0x8318#16, 0xB37B#16, 0xA35A#16, 0xD3BD#16, 0xC39C#16, 0xF3FF#16, 0xE3DE#16,
   0x2462#16, 0x3443#16, 0x0420#16, 0x1401#16, 0x64E6#16, 0x74C7#16, 0x44A4#16, 0x5485#16,
   0xA56A#16, 0xB54B#16, 0x8528#16, 0x9509#16, 0xE5EE#16, 0xF5CF#16, 0xC5AC#16, 0xD58D#16,
   0x3653#16, 0x2672#16, 0x1611#16, 0x0630#16, 0x76D7#16, 0x66F6#16, 0x5695#16, 0x46B4#16,
   0xB75B#16, 0xA77A#16, 0x9719#16, 0x8738#16, 0xF7DF#16, 0xE7FE#16, 0xD79D#16, 0xC7BC#16] ++
  [0x48C4#16, 0x58E5#16, 0x6886#16, 0x78A7#16, 0x0840#16, 0x1861#16, 0x2802#16, 0x3823#16,
   0xC9CC#16, 0xD9ED#16, 0xE98E#16, 0xF9AF#16, 0x8948#16, 0x9969#16, 0xA90A#16, 0xB92B#16,
   0x5AF5#16, 0x4AD4#16, 0x7AB7#16, 0x6A96#16, 0x1A71#16, 0x0A50#16, 0x3A33#16, 0x2A12#16,
   0xDBFD#16, 0xCBDC#16, 0xFBBF#16, 0xEB9E#16, 0x9B79#16, 0x8B58#16, 0xBB3B#16, 0xAB1A#16,
   0x6CA6#16, 0x7C87#16, 0x4CE4#16, 0x5CC5#16, 0x2C22#16, 0x3C03#16, 0x0C60#16, 0x1C41#16,
   0xEDAE#16, 0xFD8F#16, 0xCDEC#16, 0xDDCD#16, 0xAD2A#16, 0xBD0B#16, 0x8D68#16, 0x9D49#16,
   0x7E97#16, 0x6EB6#16, 0x5ED5#16, 0x4EF4#16, 0x3E13#16, 0x2E32#16, 0x1E51#16, 0x0E70#16,
   0xFF9F#16, 0xEFBE#16, 0xDFDD#16, 0xCFFC#16, 0xBF1B#16, 0xAF3A#16, 0x9F59#16, 0x8F78#16] ++
  [0x9188#16, 0x81A9#16, 0xB1CA#16, 0xA1EB#16, 0xD10C#16, 0xC12D#16, 0xF14E#16, 0xE16F#16,
   0x1080#16, 0x00A1#16, 0x30C2#16, 0x20E3#16, 0x5004#16, 0x4025#16, 0x7046#16, 0x6067#16,
   0x83B9#16, 0x9398#16, 0xA3FB#16, 0xB3DA#16, 0xC33D#16, 0xD31C#16, 0xE37F#16, 0xF35E#16,
   0x02B1#16, 0x1290#16, 0x22F3#16, 0x32D2#16, 0x4235#16, 0x5214#16, 0x6277#16, 0x7256#16,
   0xB5EA#16, 0xA5CB#16, 0x95A8#16, 0x8589#16, 0xF56E#16, 0xE54F#16, 0xD52C#16, 0xC50D#16,
   0x34E2#16, 0x24C3#16, 0x14A0#16, 0x0481#16, 0x7466#16, 0x6447#16, 0x5424#16, 0x4405#16,
   0xA7DB#16, 0xB7FA#16, 0x8799#16, 0x97B8#16, 0xE75F#16, 0xF77E#16, 0xC71D#16, 0xD73C#16,
   0x26D3#16, 0x36F2#16, 0x0691#16, 0x16B0#16, 0x6657#16, 0x7676#16, 0x4615#16, 0x5634#16] ++
  [0xD94C#16, 0xC96D#16, 0xF90E#16, 0xE92F#16, 0x99C8#16, 0x89E9#16, 0xB98A#16, 0xA9AB#16,
   0x5844#16, 0x4865#16, 0x7806#16, 0x6827#16, 0x18C0#16, 0x08E1#16, 0x3882#16, 0x28A3#16,
   0xCB7D#16, 0xDB5C#16, 0xEB3F#16, 0xFB1E#16, 0x8BF9#16, 0x9BD8#16, 0xABBB#16, 0xBB9A#16,
   0x4A75#16, 0x5A54#16, 0x6A37#16, 0x7A16#16, 0x0AF1#16, 0x1AD0#16, 0x2AB3#16, 0x3A92#16,
   0xFD2E#16, 0xED0F#16, 0xDD6C#16, 0xCD4D#16, 0xBDAA#16, 0xAD8B#16, 0x9DE8#16, 0x8DC9#16,
   0x7C26#16, 0x6C07#16, 0x5C64#16, 0x4C45#16, 0x3CA2#16, 0x2C83#16, 0x1CE0#16, 0x0CC1#16,
   0xEF1F#16, 0xFF3E#16, 0xCF5D#16, 0xDF7C#16, 0xAF9B#16, 0xBFBA#16, 0x8FD9#16, 0x9FF8#16,
   0x6E17#16, 0x7E36#16, 0x4E55#16, 0x5E74#16, 0x2E93#16, 0x3EB2#16, 0x0ED1#16, 0x1EF0#16]

end Sys2Proof.Machine
end

