-- ==== Sys2Proof/Certificates/Slice0/Obligations.lean ====
section
/-! DEFINITION. The statements for the provers. -/

open Sys2Proof Sys2Proof.Machine

/-! ### Words, instructions and frames -/

/-- 30_encoding.md R55, R57, R62: words of every family, written out from their match and mask. -/
def Obligations.RowWordsDecode : Prop :=
  decode [0x02#8] = .ok .frameShort ∧ decode [0x03#8, 0x01#8, 0x00#8] = .ok .frameLong ∧
  decode [0x00#8] = .ok (.markerReserved0 0x00#8) ∧ decode [0x01#8] = .ok (.markerReserved0 0x01#8) ∧
  decode [0x04#8] = .ok (.markerReserved1 0x04#8) ∧ decode [0x0F#8] = .ok (.markerReserved2 0x0F#8) ∧
  decode [0x10#8] = .ok (.markerReserved3 0x10#8) ∧ decode [0x3F#8] = .ok (.markerReserved4 0x3F#8) ∧
  decode [0x40#8] = .ok (.markerReserved5 0x40#8) ∧ decode [0xFF#8] = .ok (.markerReserved6 0xFF#8) ∧
  decode [] = .error .noByte ∧
  decodeOpsel 0b00#2 7 = .encodeOp 7 ∧ decodeOpsel 0b01#2 7 = .encodeOp 7 ∧
  decodeOpsel 0b10#2 7 = .decodeIgnore 7 ∧ decodeOpsel 0b11#2 7 = .decodeRaise 7

/-- 30_encoding.md R55, R57, R62: encoding and decoding agree for every row that has a word. -/
def Obligations.DecodeInvertsEncode : Prop :=
  (∀ i, wellFormed i = true → ∀ k, encode i = some k → decodeKey k (lengthOperand i) = .ok i) ∧
  (∀ b, wellFormed (decodeMarker b) = true ∧ encode (decodeMarker b) = some (.marker b)) ∧
  (∀ k n, k ≠ 0b01#2 → encode (decodeOpsel k n) = some (.opsel k))

/-- 30_encoding.md R50 to R54, R56: a frame of either format, at index 0 of any buffer, is read back with
every field as it was written, whatever follows it. -/
def Obligations.FrameDecodeInvertsEncode : Prop :=
  ∀ (f : Frame) (after : List Byte), f.wf = true → decodeFrame (encodeFrame f ++ after) = .ok f

/-- 30_encoding.md R50 to R54, R56: what is read as a frame is exactly the leading bytes of the buffer. -/
def Obligations.DecodedFrameIsTheLeadingBytes : Prop :=
  ∀ (buffer : List Byte) (f : Frame), decodeFrame buffer = .ok f →
    f.wf = true ∧ frameTotal f ≤ buffer.length ∧ encodeFrame f = buffer.take (frameTotal f)

/-! ### The CRC family -/

/-- 40_crc.md R71. -/
def Obligations.CrcClrSetsInitialValue : Prop :=
  ∀ s : State,
    exec (.crcClr .txf) s = .next { s with tx := { s.tx with crc := 0x0000#16 } } ∧
    exec (.crcClr .rxd) s = .next { s with rx := { s.rx with crc := 0x0000#16 } }

/-- 40_crc.md R72: the algorithm, its worked example, and the micro-operation on each accumulator. -/
def Obligations.CrcUpdFoldsOneByte : Prop :=
  (∀ c b, crcUpdate c b =
    (fun v : Half => if v.getLsbD 15 then (v <<< 1) ^^^ 0x1021#16 else v <<< 1)^[8]
      (c ^^^ (b.zeroExtend 16 <<< 8))) ∧
  crcUpdate 0x0000#16 0x04#8 = 0x4084#16 ∧ crcUpdate 0x0000#16 0x00#8 = 0x0000#16 ∧
  (∀ c d b e, loByte c = loByte d → hiByte c ^^^ b = hiByte d ^^^ e → crcUpdate c b = crcUpdate d e) ∧
  ∀ (b : Byte) (s : State),
    exec (.crcUpd .txf b) s = .next { s with tx := { s.tx with crc := crcUpdate s.tx.crc b } } ∧
    exec (.crcUpd .rxd b) s = .next { s with rx := { s.rx with crc := crcUpdate s.rx.crc b } }

/-- 40_crc.md R73: the table form gives the same result for every input, and the table is the one there. -/
def Obligations.CrcTableFormAgrees : Prop :=
  specCrcTable.length = 256 ∧
  (∀ i : Byte, specCrcTable[i.toNat]? = some (crcUpdate 0x0000#16 i)) ∧
  ∀ c b, crcUpdate c b = (c <<< 8) ^^^ specCrcTable.getD (hiByte c ^^^ b).toNat 0

/-- 40_crc.md R74: CRC16 is CRC.CLR and one CRC.UPD for each byte in order; its corner cases and examples. -/
def Obligations.Crc16IsTheComposite : Prop :=
  (∀ (bytes : List Byte) (s : State),
    exec (.crc16 .txf bytes) s = .next { s with tx := { s.tx with crc := crcOf bytes } } ∧
    exec (.crc16 .rxd bytes) s = .next { s with rx := { s.rx with crc := crcOf bytes } }) ∧
  (∀ bytes, crcOf bytes = bytes.foldl crcUpdate 0x0000#16) ∧
  crcOf [] = 0x0000#16 ∧ (∀ n, crcOf (List.replicate n 0x00#8) = 0x0000#16) ∧
  (∀ b : Byte, crcOf [b] = specCrcTable.getD b.toNat 0) ∧ crcOf [0x04#8] = 0x4084#16 ∧
  crcOf [0x31#8, 0x32#8, 0x33#8, 0x34#8, 0x35#8, 0x36#8, 0x37#8, 0x38#8, 0x39#8] = 0x31C3#16

/-- 40_crc.md R76: CRC.CHK writes CRC_OK and nothing else; the residue form is equivalent. -/
def Obligations.CrcChkComparesAllBits : Prop :=
  (∀ s : State,
    exec .crcChk s =
      .next { s with rx := { s.rx with
        flags := if s.rx.crc = s.rx.fcrc then s.rx.flags ||| 0b0100#4 else s.rx.flags &&& 0b1011#4 } }) ∧
  ∀ (payload : List Byte) (hi lo : Byte),
    crcOf (payload ++ [hi, lo]) = 0x0000#16 ↔ crcOf payload = joinBytes hi lo

/-- 40_crc.md R77 (a) to (c), and (d) for one bit: linearity, composition, leading zeros, and a change of
one bit of a payload changes its CRC. -/
def Obligations.CrcLaws : Prop :=
  (∀ s t : List Byte, s.length = t.length →
    crcOf (List.zipWith (· ^^^ ·) s t) = crcOf s ^^^ crcOf t) ∧
  (∀ s t : List Byte, crcOf (s ++ t) = crcFold (crcOf s) t) ∧
  (∀ (n : Nat) (s : List Byte), crcOf (List.replicate n 0x00#8 ++ s) = crcOf s) ∧
  (∀ (s : List Byte) (i k : Nat), i < s.length → k < 8 →
    crcOf (s.set i (s.getD i 0 ^^^ (1#8 <<< k))) ≠ crcOf s)

/-! ### ENCODE -/

/-- 41_framer.md R91: when ENCODE fails and with which cause; by R98 and 60_exceptions.md R140, R144, what the
failing operation leaves. That the whole operation is one step which leaves what the sequencer leaves is the
model's choice (log entry 1), and so is the note of a disturbed operation that its start clears (log entry 6). -/
def Obligations.EncodeFaultsOnLengthAlone : Prop :=
  (∀ p, encodePayload p = .fault .empty ↔ p.length = 0) ∧
  (∀ p, encodePayload p = .fault .tooLong ↔ 65536 ≤ p.length) ∧
  (∀ p, 1 ≤ p.length → p.length ≤ 65535 → ∃ f, encodePayload p = .frame f) ∧
  FaultCause.empty.kind = .invalidPayload ∧ FaultCause.tooLong.kind = .invalidPayload ∧
  TxCause.empty.code = 1#3 ∧ TxCause.tooLong.code = 2#3 ∧
  (∀ s : State, s.tx.phase = .idle →
    exec (.encodeOp 0) s =
      .next { s with
        tx := { len := 0, phase := .idle, pos := 0, cnt := 0, crc := 0, status := .fault, cause := .empty,
                flen := 0 }
        txDisturbed := false }) ∧
  (∀ (s : State) (n : Nat), s.tx.phase = .idle → 65536 ≤ n →
    exec (.encodeOp n) s =
      .next { s with
        tx := { len := n, phase := .idle, pos := 0, cnt := 0, crc := 0, status := .fault, cause := .tooLong,
                flen := 0 }
        txDisturbed := false })

/-- 41_framer.md R92, R93: the bytes of the frame and their number. -/
def Obligations.EncodeBuildsTheFrame : Prop :=
  (∀ p, p.length = 0 → encodePayload p = .fault .empty) ∧
  (∀ p, 65536 ≤ p.length → encodePayload p = .fault .tooLong) ∧
  (∀ p, 1 ≤ p.length → p.length < 256 →
    encodePayload p = .frame ([0x02#8, BitVec.ofNat 8 p.length] ++ p ++
      [hiByte (crcOf p), loByte (crcOf p), 0x03#8])) ∧
  (∀ p, 256 ≤ p.length → p.length < 65536 →
    encodePayload p = .frame ([0x03#8, BitVec.ofNat 8 (p.length / 256), BitVec.ofNat 8 (p.length % 256)] ++ p ++
      [hiByte (crcOf p), loByte (crcOf p), 0x03#8])) ∧
  encodePayload [0x04#8] = .frame [0x02#8, 0x01#8, 0x04#8, 0x40#8, 0x84#8, 0x03#8] ∧
  ∀ p f, encodePayload p = .frame f →
    f.length = (if p.length < 256 then p.length + 5 else p.length + 6) ∧
    6 ≤ f.length ∧ f.length ≤ 65541 ∧ f.length ≠ 261

/-- 41_framer.md R95 (a) to (e): round trip in both modes, length, injectivity, first and last byte,
residue. -/
def Obligations.EncodeRoundTrip : Prop :=
  ∀ p, 1 ≤ p.length → p.length < 65536 → ∃ f, encodePayload p = .frame f ∧
    (∀ mode, decodeBuffer f mode = .accept p f.length) ∧
    f.length = (if p.length < 256 then p.length + 5 else p.length + 6) ∧
    (∀ q, encodePayload q = .frame f → q = p) ∧
    (f.head? = some 0x02#8 ∨ f.head? = some 0x03#8) ∧ f.getLast? = some 0x03#8 ∧
    crcOf (slice f (formatFor p.length).headerSize (p.length + 2)) = 0x0000#16

/-- 41_framer.md R92, R105: ENCODE of a payload of legal length completes, with the frame in TXFRM, the
registers as R105 says, and everything else as it was. That the whole operation is one step which leaves
what the sequencer leaves is the model's choice (log entry 1), and that the bytes of TXFRM behind the frame
stay is its reading of 20_memory.md R35 (log entry 10). -/
def Obligations.EncodeCompletes : Prop :=
  ∀ (s : State) (n : Nat), s.tx.phase = .idle → 1 ≤ n → n < 65536 → s.txpay.fits n = true →
    s.txfrm.fits (frameSize (formatFor n) n) = true →
    ∃ f t, encodePayload (payloadOperand n s) = .frame f ∧ exec (.encodeOp n) s = .next t ∧
      t.tx = { len := n, phase := .idle, pos := BitVec.ofNat 17 f.length, cnt := BitVec.ofNat 16 n,
               crc := crcOf (payloadOperand n s), status := .ok, cause := .noFault,
               flen := BitVec.ofNat 17 f.length } ∧
      f.length = frameSize (formatFor n) n ∧
      (∀ i b, f[i]? = some b → t.txfrm.read .txfrm i = b) ∧
      (∀ i, f.length ≤ i → t.txfrm.read .txfrm i = s.txfrm.read .txfrm i) ∧
      SameButTx s t ∧ t.txFree = s.txFree

/-- 41_framer.md R96 to R105; 00_scope.md R5: the sequencer, run from START.TX until it is idle again, leaves
exactly the state that ENCODE leaves, for every payload length. The equality of the whole state is more than
R105 says: it is the model's choice that a whole operation leaves what the sequencer leaves (log entry 1). -/
def Obligations.FramerRefinesEncode : Prop :=
  ∀ (s : State) (n k : Nat) (rest : List Turn), s.tx.phase = .idle →
    s.agenda = .host (.startTx n) :: (List.replicate k (.unit .txf) ++ rest) → n + 7 ≤ k →
    steps (k + 1) s = exec (.encodeOp n) { s with agenda := rest }

/-- 41_framer.md R106: the number of steps of TXF after `tx_start`. -/
def Obligations.FramerStepCount : Prop :=
  ∀ (s : State) (n k : Nat) (rest : List Turn), s.tx.phase = .idle → txTooSmall n s = none →
    s.agenda = .host (.startTx n) :: (List.replicate k (.unit .txf) ++ rest) →
    ∃ t, steps (k + 1) s = .next t ∧
      (t.tx.phase = .idle ↔
        (if n = 0 ∨ 65536 ≤ n then 1 else if n < 256 then n + 6 else n + 7) ≤ k)

/-! ### The steps of TXF -/

/-- 41_framer.md R98: T_CHECK in every state that a run can reach. -/
def Obligations.TxfCheckStep : Prop :=
  ∀ (s : State) (rest : List Turn), s.agenda = .unit .txf :: rest → s.tx.phase = .check → TxInv s.tx →
    (s.tx.len = 0 →
      step s = .next { s with
        agenda := rest
        tx := { len := 0, phase := .idle, pos := 0, cnt := 0, crc := 0x0000#16, status := .fault,
                cause := .empty, flen := 0 } }) ∧
    (65536 ≤ s.tx.len →
      step s = .next { s with
        agenda := rest
        tx := { len := s.tx.len, phase := .idle, pos := 0, cnt := 0, crc := 0x0000#16, status := .fault,
                cause := .tooLong, flen := 0 } }) ∧
    (1 ≤ s.tx.len → s.tx.len < 65536 →
      step s = .next { s with agenda := rest, tx := { s.tx with phase := .mark } })

/-- 41_framer.md R99, R100, and the effect of T_LENL in R101: each header step emits one byte and names its
successor. -/
def Obligations.TxfHeaderSteps : Prop :=
  ∀ (s : State) (rest : List Turn), s.agenda = .unit .txf :: rest →
    s.txfrm.holds s.tx.pos.toNat = true →
    (s.tx.phase = .mark → s.tx.len < 256 →
      step s = .next { s with
        agenda := rest
        txfrm := s.txfrm.write s.tx.pos.toNat 0x02#8
        tx := { s.tx with pos := s.tx.pos + 1, phase := .lenl } }) ∧
    (s.tx.phase = .mark → 256 ≤ s.tx.len →
      step s = .next { s with
        agenda := rest
        txfrm := s.txfrm.write s.tx.pos.toNat 0x03#8
        tx := { s.tx with pos := s.tx.pos + 1, phase := .lenh } }) ∧
    (s.tx.phase = .lenh →
      step s = .next { s with
        agenda := rest
        txfrm := s.txfrm.write s.tx.pos.toNat (BitVec.ofNat 8 (s.tx.len / 256))
        tx := { s.tx with pos := s.tx.pos + 1, phase := .lenl } }) ∧
    (s.tx.phase = .lenl →
      step s = .next { s with
        agenda := rest
        txfrm := s.txfrm.write s.tx.pos.toNat (BitVec.ofNat 8 s.tx.len)
        tx := { s.tx with pos := s.tx.pos + 1, phase := .pay } })

/-- The step of T_PAY in 41_framer.md R102: the byte passes through unchanged and is folded into the CRC in
the same step; the phase moves on with the last byte. -/
def Obligations.TxfPayloadStep : Prop :=
  ∀ (s : State) (rest : List Turn), s.agenda = .unit .txf :: rest → s.tx.phase = .pay →
    s.txDisturbed = false → s.txpay.holds s.tx.cnt.toNat = true → s.txfrm.holds s.tx.pos.toNat = true →
    step s = .next { s with
      agenda := rest
      txfrm := s.txfrm.write s.tx.pos.toNat (s.txpay.read .txpay s.tx.cnt.toNat)
      tx := { s.tx with
        pos := s.tx.pos + 1
        cnt := s.tx.cnt + 1
        crc := crcUpdate s.tx.crc (s.txpay.read .txpay s.tx.cnt.toNat)
        phase := if (s.tx.cnt + 1).toNat = s.tx.len then .crch else .pay } }

/-- 41_framer.md R103, R104: the CRC big-endian, the terminator, and the outcome. -/
def Obligations.TxfFooterSteps : Prop :=
  ∀ (s : State) (rest : List Turn), s.agenda = .unit .txf :: rest →
    s.txfrm.holds s.tx.pos.toNat = true →
    (s.tx.phase = .crch →
      step s = .next { s with
        agenda := rest
        txfrm := s.txfrm.write s.tx.pos.toNat (hiByte s.tx.crc)
        tx := { s.tx with pos := s.tx.pos + 1, phase := .crcl } }) ∧
    (s.tx.phase = .crcl →
      step s = .next { s with
        agenda := rest
        txfrm := s.txfrm.write s.tx.pos.toNat (loByte s.tx.crc)
        tx := { s.tx with pos := s.tx.pos + 1, phase := .term } }) ∧
    (s.tx.phase = .term →
      step s = .next { s with
        agenda := rest
        txfrm := s.txfrm.write s.tx.pos.toNat 0x03#8
        tx := { s.tx with pos := s.tx.pos + 1, flen := s.tx.pos + 1, status := .ok, phase := .idle } })

/-! ### DECODE -/

/-- 42_deframer.md R136: the complete decision table, row by row. -/
def Obligations.DecodeDecisionTable : Prop :=
  (∀ mode, decodeBuffer [] mode = .noFrame) ∧
  (∀ m r mode, m ≠ 0x02#8 → m ≠ 0x03#8 → decodeBuffer (m :: r) mode = .noFrame) ∧
  (∀ mode, decodeBuffer [0x02#8] mode = .noFrame) ∧
  (∀ mode, decodeBuffer [0x03#8] mode = .noFrame) ∧
  (∀ h mode, decodeBuffer [0x03#8, h] mode = .noFrame) ∧
  (∀ (l : Byte) (r : List Byte) mode, r.length + 2 < l.toNat + 5 →
    decodeBuffer (0x02#8 :: l :: r) mode = .noFrame) ∧
  (∀ (h l : Byte) (r : List Byte) mode, r.length + 3 < 256 * h.toNat + l.toNat + 6 →
    decodeBuffer (0x03#8 :: h :: l :: r) mode = .noFrame) ∧
  (∀ (buffer : List Byte) (fmt : Format) (len : Nat), decodeHeader buffer = .ok (fmt, len) →
    frameSize fmt len ≤ buffer.length →
    let h := fmt.headerSize
    let payload := slice buffer h len
    let crc := joinBytes (buffer.getD (h + len) 0) (buffer.getD (h + len + 1) 0)
    let term := buffer.getD (h + len + 2) 0
    (crcOf payload ≠ crc →
      decodeBuffer buffer .ignore = .discard (h + len + 3) ∧ decodeBuffer buffer .raise = .fault .invalidCrc) ∧
    (crcOf payload = crc → term ≠ 0x03#8 → ∀ mode, decodeBuffer buffer mode = .fault .invalidTerminator) ∧
    (crcOf payload = crc → term = 0x03#8 →
      ∀ mode, decodeBuffer buffer mode = .accept payload (h + len + 3))) ∧
  (∀ (l : Byte) (r : List Byte), decodeHeader (0x02#8 :: l :: r) = .ok (.short, l.toNat)) ∧
  (∀ (h l : Byte) (r : List Byte),
    decodeHeader (0x03#8 :: h :: l :: r) = .ok (.long, 256 * h.toNat + l.toNat))

/-- 42_deframer.md R134 (a) to (d): round trip; a flipped bit of the CRC field; a replaced terminator; every
strict initial part of a frame. -/
def Obligations.DecodeSensitivity : Prop :=
  ∀ p f, encodePayload p = .frame f →
    (∀ mode, decodeBuffer f mode = .accept p f.length) ∧
    (∀ i k, (i = f.length - 3 ∨ i = f.length - 2) → k < 8 →
      decodeBuffer (f.set i (f.getD i 0 ^^^ (1#8 <<< k))) .raise = .fault .invalidCrc ∧
      decodeBuffer (f.set i (f.getD i 0 ^^^ (1#8 <<< k))) .ignore = .discard f.length) ∧
    (∀ b mode, b ≠ 0x03#8 → decodeBuffer (f.set (f.length - 1) b) mode = .fault .invalidTerminator) ∧
    (∀ n mode, n < f.length →
      decodeBuffer (f.take n) mode = .noFrame ∧
      decodeBuffer (f.take n ++ f.drop n) mode = .accept p f.length)

/-- 42_deframer.md R135 (a) to (f). -/
def Obligations.DecodeFurtherProperties : Prop :=
  (∀ b mode, ∃! o, decodeBuffer b mode = o) ∧
  (∀ b mode x, decodeBuffer b mode ≠ .noFrame → decodeBuffer (b ++ x) mode = decodeBuffer b mode) ∧
  (∀ m r mode x, m ≠ 0x02#8 → m ≠ 0x03#8 → decodeBuffer ((m :: r) ++ x) mode = .noFrame) ∧
  (∀ r mode x, 260 ≤ ((0x02#8 :: r) ++ x).length → decodeBuffer ((0x02#8 :: r) ++ x) mode ≠ .noFrame) ∧
  (∀ r mode x, 65541 ≤ ((0x03#8 :: r) ++ x).length → decodeBuffer ((0x03#8 :: r) ++ x) mode ≠ .noFrame) ∧
  (∀ b, decodeBuffer b .ignore = decodeBuffer b .raise ∨
    ∃ f, decodeFrame b = .ok f ∧ crcOf f.payload ≠ f.crc) ∧
  (∀ b mode, (decodeBuffer b mode).consumed ≤ b.length) ∧
  (∀ b mode p n, decodeBuffer b mode = .accept p n →
    ∃ fmt len, decodeHeader b = .ok (fmt, len) ∧ p = slice b fmt.headerSize len)

/-- 42_deframer.md R114: one frame per operation; the bytes behind it are not looked at, and the next frame
is found once the consumed bytes have been dropped. -/
def Obligations.DecodeTakesOneFrame : Prop :=
  (∀ b f mode, decodeFrame b = .ok f → decodeBuffer b mode = decodeBuffer (b.take (frameTotal f)) mode) ∧
  ∀ p q f g mode, encodePayload p = .frame f → encodePayload q = .frame g →
    decodeBuffer (f ++ g) mode = .accept p f.length ∧
    decodeBuffer ((f ++ g).drop (decodeBuffer (f ++ g) mode).consumed) mode = .accept q g.length

/-- 42_deframer.md R117, R118: what ENCODE never produces and DECODE accepts. -/
def Obligations.DecodeAcceptsNonCanonical : Prop :=
  (∀ p mode, p.length < 256 →
    decodeBuffer (encodeFrame { format := .long, payload := p, crc := crcOf p, term := 0x03#8 }) mode =
      .accept p (p.length + 6)) ∧
  (∀ p q, p.length < 256 →
    encodePayload q ≠ .frame (encodeFrame { format := .long, payload := p, crc := crcOf p, term := 0x03#8 })) ∧
  (∀ c t mode p n,
    decodeBuffer (encodeFrame { format := .short, payload := [], crc := c, term := t }) mode = .accept p n ↔
      c = 0x0000#16 ∧ t = 0x03#8 ∧ p = [] ∧ n = 5) ∧
  (∀ c t mode p n,
    decodeBuffer (encodeFrame { format := .long, payload := [], crc := c, term := t }) mode = .accept p n ↔
      c = 0x0000#16 ∧ t = 0x03#8 ∧ p = [] ∧ n = 6)

/-- 42_deframer.md R119: `bytes_consumed` is 0 or the frame's size: the frame's size exactly on Accept and
Discard, and 0 on NoFrame and, by 60_exceptions.md R144 (b), on a fault, which delivers no count. -/
def Obligations.ConsumedIsZeroOrFrameSize : Prop :=
  ∀ b mode,
    (decodeBuffer b mode = .noFrame → (decodeBuffer b mode).consumed = 0) ∧
    (∀ c, decodeBuffer b mode = .fault c → (decodeBuffer b mode).consumed = 0) ∧
    ((decodeBuffer b mode).consumed ≠ 0 ↔
      (∃ p n, decodeBuffer b mode = .accept p n) ∨ (∃ n, decodeBuffer b mode = .discard n)) ∧
    ((∃ p n, decodeBuffer b mode = .accept p n) ∨ (∃ n, decodeBuffer b mode = .discard n) →
      ∃ f, decodeFrame b = .ok f ∧ (decodeBuffer b mode).consumed = frameTotal f) ∧
    (decodeBuffer b mode).consumed ≤ b.length ∧
    ((decodeBuffer b mode).consumed ≠ 0 → 5 ≤ (decodeBuffer b mode).consumed)

/-- 42_deframer.md R116, R131: DECODE in either mode completes, with every register of RXD, and RXPAY, as
the buffer's class says, and everything else as it was. That the whole operation is one step which leaves
RX_FLAGS, RX_POS and every other register as the sequencer does is the model's choice (log entry 1); so is
that RXPAY holds the rejected window after Discard and faults at this level (log entry 13, from 20_memory.md
R36), and that the bytes behind the payload stay is its reading of 20_memory.md R35 (log entry 10). -/
def Obligations.DecodeCompletes : Prop :=
  ∀ (s : State) (n : Nat) (mode : ErrMode), s.rx.phase = .idle → s.rxbuf.fits n = true →
    (∀ f, decodeFrame (bufferOperand n s) = .ok f → s.rxpay.fits f.payload.length = true) →
    ∃ t, exec (decodeInstr mode n) s = .next t ∧ SameButRx s t ∧ t.rxFree = s.rxFree ∧
      match decodeFrame (bufferOperand n s) with
      | .error .empty =>
        t.rxpay = s.rxpay ∧
        t.rx = { RxRegs.started n mode with phase := .idle, status := .noFrame }
      | .error (.unknownMarker b) =>
        t.rxpay = s.rxpay ∧
        t.rx = { RxRegs.started n mode with phase := .idle, status := .noFrame, marker := b, pos := 1 }
      | .error (.headerShort fmt present) =>
        t.rxpay = s.rxpay ∧
        t.rx = { RxRegs.started n mode with
          phase := .idle, status := .noFrame, marker := fmt.marker
          payidx := BitVec.ofNat 2 fmt.headerSize
          paylen := joinBytes (present.headD 0) 0
          pos := BitVec.ofNat 17 n }
      | .error (.sizeShort fmt len) =>
        t.rxpay = s.rxpay ∧
        t.rx = { RxRegs.started n mode with
          phase := .idle, status := .noFrame, marker := fmt.marker
          payidx := BitVec.ofNat 2 fmt.headerSize
          paylen := BitVec.ofNat 16 len
          fsize := BitVec.ofNat 17 (frameSize fmt len)
          flags := 0b0001#4
          pos := BitVec.ofNat 17 fmt.headerSize }
      | .ok f =>
        (∀ i b, f.payload[i]? = some b → t.rxpay.read .rxpay i = b) ∧
        (∀ i, f.payload.length ≤ i → t.rxpay.read .rxpay i = s.rxpay.read .rxpay i) ∧
        t.rx = { n := n, mode := mode, phase := .idle
                 pos := BitVec.ofNat 17 (frameTotal f)
                 cnt := BitVec.ofNat 16 f.payload.length
                 marker := f.format.marker
                 payidx := BitVec.ofNat 2 f.format.headerSize
                 paylen := BitVec.ofNat 16 f.payload.length
                 fsize := BitVec.ofNat 17 (frameTotal f)
                 crc := crcOf f.payload, fcrc := f.crc, term := f.term
                 flags := (if f.term = 0x03#8 then 0b1000#4 else 0#4) |||
                   (if crcOf f.payload = f.crc then 0b0100#4 else 0#4) ||| 0b0011#4
                 status :=
                   if crcOf f.payload = f.crc then (if f.term = 0x03#8 then .accept else .fault)
                   else if mode = .ignore then .discard else .fault
                 cause :=
                   if crcOf f.payload = f.crc then (if f.term = 0x03#8 then .noFault else .invalidTerminator)
                   else if mode = .ignore then .noFault else .invalidCrc
                 consumed :=
                   if crcOf f.payload = f.crc then
                     (if f.term = 0x03#8 then BitVec.ofNat 17 (frameTotal f) else 0)
                   else if mode = .ignore then BitVec.ofNat 17 (frameTotal f) else 0 }

/-- 42_deframer.md R120 to R132; 00_scope.md R5: the sequencer, run from START.RX until it is idle again,
leaves exactly the state that DECODE leaves, for every snapshot and both modes. The equality of the whole
state is more than R132 says: it is the model's choice that a whole operation leaves what the sequencer
leaves (log entry 1), the rejected window in RXPAY included (log entry 13). -/
def Obligations.DeframerRefinesDecode : Prop :=
  ∀ (s : State) (n k : Nat) (mode : ErrMode) (rest : List Turn), s.rx.phase = .idle →
    s.agenda = .host (.startRx n mode) :: (List.replicate k (.unit .rxd) ++ rest) → n + 2 ≤ k →
    steps (k + 1) s = exec (decodeInstr mode n) { s with agenda := rest }

/-- 42_deframer.md R133: the number of steps of RXD after `rx_start`, by the class of the snapshot. -/
def Obligations.DeframerStepCount : Prop :=
  ∀ (s : State) (n k : Nat) (mode : ErrMode) (rest : List Turn), s.rx.phase = .idle →
    s.rxbuf.fits n = true → rxTooSmall n s = none →
    s.agenda = .host (.startRx n mode) :: (List.replicate k (.unit .rxd) ++ rest) →
    ∃ t, steps (k + 1) s = .next t ∧
      (t.rx.phase = .idle ↔
        (match decodeFrame (bufferOperand n s) with
          | .error .empty => 1
          | .error (.unknownMarker _) => 1
          | .error (.headerShort _ present) => present.length + 2
          | .error (.sizeShort fmt _) => fmt.headerSize + 1
          | .ok f => f.format.headerSize + f.payload.length + 5) ≤ k)

/-! ### The marker rows and the steps of RXD -/

/-- 30_encoding.md R55, R57; 42_deframer.md R122: what each of the nine rows that the deframer dispatches
on does, and that it does nothing else. That the effect of a frame row is the marker dispatch is the model's
choice (log entry 2), and so is that the rows have it in every state, where R122 enables the dispatch in
D_MARK only (log entry 12). -/
def Obligations.MarkerRowsDispatch : Prop :=
  ∀ (s : State),
    exec .frameShort s = .next { s with rx := { s.rx with marker := 0x02#8, payidx := 2, phase := .lenl } } ∧
    exec .frameLong s = .next { s with rx := { s.rx with marker := 0x03#8, payidx := 3, phase := .lenh } } ∧
    ∀ b : Byte,
      let t := { s with rx := { s.rx with
        marker := b, status := .noFrame, cause := .noFault, consumed := 0, phase := .idle } }
      exec (.markerReserved0 b) s = .next t ∧ exec (.markerReserved1 b) s = .next t ∧
      exec (.markerReserved2 b) s = .next t ∧ exec (.markerReserved3 b) s = .next t ∧
      exec (.markerReserved4 b) s = .next t ∧ exec (.markerReserved5 b) s = .next t ∧
      exec (.markerReserved6 b) s = .next t

/-- 42_deframer.md R122: D_MARK at the start of a snapshot. -/
def Obligations.RxdMarkStep : Prop :=
  ∀ (s : State) (rest : List Turn), s.agenda = .unit .rxd :: rest → s.rx.phase = .mark →
    s.rxDisturbed = false → s.rx.pos = 0 → s.rxbuf.holds 0 = true →
    (s.rx.n = 0 →
      step s = .next { s with
        agenda := rest
        rx := { s.rx with status := .noFrame, cause := .noFault, consumed := 0, phase := .idle } }) ∧
    (s.rx.n ≠ 0 → s.rxbuf.read .rxbuf 0 = 0x02#8 →
      step s = .next { s with
        agenda := rest
        rx := { s.rx with pos := 1, marker := 0x02#8, payidx := 2, phase := .lenl } }) ∧
    (s.rx.n ≠ 0 → s.rxbuf.read .rxbuf 0 = 0x03#8 →
      step s = .next { s with
        agenda := rest
        rx := { s.rx with pos := 1, marker := 0x03#8, payidx := 3, phase := .lenh } }) ∧
    (s.rx.n ≠ 0 → s.rxbuf.read .rxbuf 0 ≠ 0x02#8 → s.rxbuf.read .rxbuf 0 ≠ 0x03#8 →
      step s = .next { s with
        agenda := rest
        rx := { s.rx with
          pos := 1, marker := s.rxbuf.read .rxbuf 0, status := .noFrame, cause := .noFault, consumed := 0
          phase := .idle } })

/-- The effects of D_LENH and D_LENL in 42_deframer.md R123, R124. -/
def Obligations.RxdLengthSteps : Prop :=
  ∀ (s : State) (rest : List Turn), s.agenda = .unit .rxd :: rest →
    s.rx.phase = .lenh ∨ s.rx.phase = .lenl →
    (s.rx.n ≤ s.rx.pos.toNat →
      step s = .next { s with
        agenda := rest
        rx := { s.rx with status := .noFrame, cause := .noFault, consumed := 0, phase := .idle } }) ∧
    (s.rx.pos.toNat < s.rx.n → s.rxDisturbed = false → s.rxbuf.holds s.rx.pos.toNat = true →
      let b := s.rxbuf.read .rxbuf s.rx.pos.toNat
      (s.rx.phase = .lenh →
        step s = .next { s with
          agenda := rest
          rx := { s.rx with pos := s.rx.pos + 1, paylen := joinBytes b (loByte s.rx.paylen), phase := .lenl } }) ∧
      (s.rx.phase = .lenl →
        step s = .next { s with
          agenda := rest
          rx := { s.rx with pos := s.rx.pos + 1, paylen := joinBytes (hiByte s.rx.paylen) b, phase := .size } }))

/-- 42_deframer.md R125: the 17-bit sum, which does not wrap, the two flags, and whether the frame is
complete. -/
def Obligations.RxdSizeStep : Prop :=
  ∀ (s : State) (rest : List Turn), s.agenda = .unit .rxd :: rest → s.rx.phase = .size →
    s.rx.payidx = 2 ∨ s.rx.payidx = 3 →
    let fs := s.rx.payidx.toNat + s.rx.paylen.toNat + 3
    5 ≤ fs ∧ fs ≤ 65541 ∧
    (s.rx.n < fs →
      step s = .next { s with
        agenda := rest
        rx := { s.rx with
          fsize := BitVec.ofNat 17 fs, flags := s.rx.flags ||| 0b0001#4, status := .noFrame, cause := .noFault
          consumed := 0, phase := .idle } }) ∧
    (fs ≤ s.rx.n →
      step s = .next { s with
        agenda := rest
        rx := { s.rx with
          fsize := BitVec.ofNat 17 fs, flags := s.rx.flags ||| 0b0011#4
          phase := if s.rx.paylen = 0 then .crch else .pay } })

/-- The step of D_PAY in 42_deframer.md R126: the byte passes through unchanged and is folded into the CRC
in the same step; the phase moves on with the last byte. -/
def Obligations.RxdPayloadStep : Prop :=
  ∀ (s : State) (rest : List Turn), s.agenda = .unit .rxd :: rest → s.rx.phase = .pay →
    s.rxDisturbed = false → s.rxbuf.holds s.rx.pos.toNat = true → s.rxpay.holds s.rx.cnt.toNat = true →
    step s = .next { s with
      agenda := rest
      rxpay := s.rxpay.write s.rx.cnt.toNat (s.rxbuf.read .rxbuf s.rx.pos.toNat)
      rx := { s.rx with
        pos := s.rx.pos + 1
        cnt := s.rx.cnt + 1
        crc := crcUpdate s.rx.crc (s.rxbuf.read .rxbuf s.rx.pos.toNat)
        phase := if s.rx.cnt + 1 = s.rx.paylen then .crch else .pay } }

/-- 42_deframer.md R127, R128, R129: the three footer bytes; none is fed to the accumulator, and after the
last one RX_POS is RX_FSIZE in every state that a run can reach. -/
def Obligations.RxdFooterSteps : Prop :=
  ∀ (s : State) (rest : List Turn), s.agenda = .unit .rxd :: rest →
    s.rxDisturbed = false → s.rxbuf.holds s.rx.pos.toNat = true →
    let b := s.rxbuf.read .rxbuf s.rx.pos.toNat
    (s.rx.phase = .crch →
      step s = .next { s with
        agenda := rest
        rx := { s.rx with pos := s.rx.pos + 1, fcrc := joinBytes b (loByte s.rx.fcrc), phase := .crcl } } ∧
      (RxInv s.rx → s.rx.pos.toNat = s.rx.payidx.toNat + s.rx.paylen.toNat)) ∧
    (s.rx.phase = .crcl →
      step s = .next { s with
        agenda := rest
        rx := { s.rx with pos := s.rx.pos + 1, fcrc := joinBytes (hiByte s.rx.fcrc) b, phase := .term } }) ∧
    (s.rx.phase = .term →
      step s = .next { s with
        agenda := rest
        rx := { s.rx with pos := s.rx.pos + 1, term := b, phase := .check } } ∧
      (RxInv s.rx → s.rx.pos + 1 = s.rx.fsize))

/-- 42_deframer.md R130: D_CHECK records both flags, judges the CRC first, and faults, discards or accepts. -/
def Obligations.RxdCheckStep : Prop :=
  ∀ (s : State) (rest : List Turn), s.agenda = .unit .rxd :: rest → s.rx.phase = .check →
    let flags := (if s.rx.term = 0x03#8 then 0b1000#4 else 0#4) |||
      (if s.rx.crc = s.rx.fcrc then 0b0100#4 else 0#4) ||| (s.rx.flags &&& 0b0011#4)
    let ends (status : RxStatus) (cause : RxCause) (consumed : Pos) : Out :=
      .next { s with
        agenda := rest
        rx := { s.rx with
          flags := flags, status := status, cause := cause, consumed := consumed, phase := .idle } }
    (s.rx.crc ≠ s.rx.fcrc → s.rx.mode = .ignore → step s = ends .discard .noFault s.rx.fsize) ∧
    (s.rx.crc ≠ s.rx.fcrc → s.rx.mode = .raise → step s = ends .fault .invalidCrc 0) ∧
    (s.rx.crc = s.rx.fcrc → s.rx.term ≠ 0x03#8 → step s = ends .fault .invalidTerminator 0) ∧
    (s.rx.crc = s.rx.fcrc → s.rx.term = 0x03#8 → step s = ends .accept .noFault s.rx.fsize)

/-! ### The host's actions -/

/-- 10_state.md R21: what the two starts do to the registers when they are taken. -/
def Obligations.StartsInitialiseRegisters : Prop :=
  (∀ (s : State) (n : Nat), s.tx.phase = .idle → txTooSmall n s = none →
    exec (.startTx n) s = .next { s with
      tx := { len := n, phase := .check, pos := 0, cnt := 0, crc := 0x0000#16, status := .busy,
              cause := .noFault, flen := 0 }
      txDisturbed := false }) ∧
  (∀ (s : State) (n : Nat) (mode : ErrMode), s.rx.phase = .idle → s.rxbuf.fits n = true →
    rxTooSmall n s = none →
    exec (.startRx n mode) s = .next { s with
      rx := { n := n, mode := mode, phase := .mark, pos := 0, cnt := 0, marker := 0, payidx := 0, paylen := 0
              fsize := 0, crc := 0x0000#16, fcrc := 0, term := 0, flags := 0, status := .busy
              cause := .noFault, consumed := 0 }
      rxDisturbed := false })

/-- 60_exceptions.md R158: a start that is not taken has no effect whatever. That the machine then answers
the same state, where the rule gives the host no such step, is the model's form (log entry 8). -/
def Obligations.RefusedStartsHaveNoEffect : Prop :=
  ∀ (s : State) (n : Nat) (mode : ErrMode),
    (s.tx.phase ≠ .idle → exec (.startTx n) s = .next s ∧ exec (.encodeOp n) s = .next s) ∧
    (s.rx.phase ≠ .idle → exec (.startRx n mode) s = .next s ∧ exec (decodeInstr mode n) s = .next s) ∧
    (s.rxbuf.fits n = false → exec (.startRx n mode) s = .next s ∧ exec (decodeInstr mode n) s = .next s)

/-- 20_memory.md R38; 93_implementation_defined.md U7: a start whose operation does not fit is refused by
the name of the buffer. -/
def Obligations.StartsThatDoNotFitAreRefused : Prop :=
  (∀ (s : State) (n : Nat), s.tx.phase = .idle → 1 ≤ n → n < 65536 →
    (s.txpay.fits n = false →
      exec (.startTx n) s = .refused (.bufferTooSmall .txpay) ∧
      exec (.encodeOp n) s = .refused (.bufferTooSmall .txpay)) ∧
    (s.txpay.fits n = true → s.txfrm.fits (frameSize (formatFor n) n) = false →
      exec (.startTx n) s = .refused (.bufferTooSmall .txfrm) ∧
      exec (.encodeOp n) s = .refused (.bufferTooSmall .txfrm))) ∧
  (∀ (s : State) (n : Nat) (mode : ErrMode) (f : Frame), s.rx.phase = .idle → s.rxbuf.fits n = true →
    decodeFrame (bufferOperand n s) = .ok f → s.rxpay.fits f.payload.length = false →
    exec (.startRx n mode) s = .refused (.bufferTooSmall .rxpay) ∧
    exec (decodeInstr mode n) s = .refused (.bufferTooSmall .rxpay))

/-- 60_exceptions.md R155; 10_state.md R19: POLL answers `busy` and changes nothing in the block. -/
def Obligations.PollAnswersBusy : Prop :=
  ∀ s : State,
    exec (.poll .txf) s = .next { s with answer := some (if s.tx.phase = .idle then 0 else 1) } ∧
    exec (.poll .rxd) s = .next { s with answer := some (if s.rx.phase = .idle then 0 else 1) }

/-- 60_exceptions.md R156; 10_state.md R12, R14: READ answers every readable register and every byte of the
output buffers, and changes nothing in the block. That a READ of a busy unit answers the value of the moment
at which it is taken is the model's choice (log entry 9). -/
def Obligations.ReadAnswersWithoutEffect : Prop :=
  ∀ s : State,
    let answered (r : Reg) (v : Nat) : Prop := exec (.read (.reg r)) s = .next { s with answer := some v }
    answered .txLen s.tx.len ∧ answered .txPos s.tx.pos.toNat ∧ answered .txCnt s.tx.cnt.toNat ∧
    answered .txCrc s.tx.crc.toNat ∧ answered .txStatus s.tx.status.code.toNat ∧
    answered .txCause s.tx.cause.code.toNat ∧ answered .txFlen s.tx.flen.toNat ∧ answered .rxN s.rx.n ∧
    answered .rxMode (if s.rx.mode = .ignore then 0 else 1) ∧ answered .rxPos s.rx.pos.toNat ∧
    answered .rxCnt s.rx.cnt.toNat ∧ answered .rxMarker s.rx.marker.toNat ∧
    answered .rxPayidx s.rx.payidx.toNat ∧ answered .rxPaylen s.rx.paylen.toNat ∧
    answered .rxFsize s.rx.fsize.toNat ∧ answered .rxCrc s.rx.crc.toNat ∧ answered .rxFcrc s.rx.fcrc.toNat ∧
    answered .rxTerm s.rx.term.toNat ∧ answered .rxFlags s.rx.flags.toNat ∧
    answered .rxStatus s.rx.status.code.toNat ∧ answered .rxCause s.rx.cause.code.toNat ∧
    answered .rxConsumed s.rx.consumed.toNat ∧
    (∀ i, s.txfrm.holds i = true →
      exec (.read (.txfrm i)) s = .next { s with answer := some (s.txfrm.read .txfrm i).toNat }) ∧
    (∀ i, s.rxpay.holds i = true →
      exec (.read (.rxpay i)) s = .next { s with answer := some (s.rxpay.read .rxpay i).toNat })

/-- 10_state.md R17, R18: the codes of status and cause, and that no reserved code is ever delivered. -/
def Obligations.StatusAndCauseCodes : Prop :=
  (TxStatus.never.code = 0#2 ∧ TxStatus.busy.code = 1#2 ∧ TxStatus.ok.code = 2#2 ∧ TxStatus.fault.code = 3#2) ∧
  (RxStatus.never.code = 0#3 ∧ RxStatus.busy.code = 1#3 ∧ RxStatus.noFrame.code = 2#3 ∧
    RxStatus.accept.code = 3#3 ∧ RxStatus.discard.code = 4#3 ∧ RxStatus.fault.code = 5#3) ∧
  (TxCause.noFault.code = 0#3 ∧ TxCause.empty.code = 1#3 ∧ TxCause.tooLong.code = 2#3) ∧
  (RxCause.noFault.code = 0#3 ∧ RxCause.invalidCrc.code = 3#3 ∧ RxCause.invalidTerminator.code = 4#3) ∧
  (∀ (s : State) r t v, exec (.read (.reg r)) s = .next t → t.answer = some v →
    (r = .rxStatus → v ≤ 5) ∧ (r = .txCause → v ≤ 2) ∧ (r = .rxCause → v = 0 ∨ v = 3 ∨ v = 4))

/-- 60_exceptions.md R157: WRITE.TXPAY and WRITE.RXBUF store their bytes and nothing else, and, given while
the unit that reads the buffer is idle, leave no trace beside them (during an operation: log entry 6). -/
def Obligations.HostWritesStoreBytes : Prop :=
  (∀ (s : State) (i : Nat) (bytes : List Byte), s.txpay.fits (i + bytes.length) = true →
    ∃ m d, exec (.writeTxpay i bytes) s = .next { s with txpay := m, txDisturbed := d } ∧
      (∀ k b, bytes[k]? = some b → m.read .txpay (i + k) = b) ∧
      (∀ j, j < i ∨ i + bytes.length ≤ j → m.read .txpay j = s.txpay.read .txpay j) ∧
      (s.tx.phase = .idle → d = s.txDisturbed) ∧ (s.tx.phase ≠ .idle → bytes ≠ [] → d = true)) ∧
  (∀ (s : State) (i : Nat) (bytes : List Byte), s.rxbuf.fits (i + bytes.length) = true →
    ∃ m d, exec (.writeRxbuf i bytes) s = .next { s with rxbuf := m, rxDisturbed := d } ∧
      (∀ k b, bytes[k]? = some b → m.read .rxbuf (i + k) = b) ∧
      (∀ j, j < i ∨ i + bytes.length ≤ j → m.read .rxbuf j = s.rxbuf.read .rxbuf j) ∧
      (s.rx.phase = .idle → d = s.rxDisturbed) ∧ (s.rx.phase ≠ .idle → bytes ≠ [] → d = true))

/-- 93_implementation_defined.md U4 (the model's choice is log entry 6): after a WRITE during the operation,
what the unit reads in any of its reading phases is a free value, a fresh one for each read, and everything
else goes on as the rules say, from that byte. -/
def Obligations.DisturbedReadsAreFree : Prop :=
  (∀ (s : State) (rest : List Turn), s.agenda = .unit .txf :: rest → s.tx.phase = .pay →
    s.txDisturbed = true → s.txpay.holds s.tx.cnt.toNat = true → s.txfrm.holds s.tx.pos.toNat = true →
    let b := Config.disturbedByte .txf s.txFree
    step s = .next { s with
      agenda := rest
      txFree := s.txFree + 1
      txfrm := s.txfrm.write s.tx.pos.toNat b
      tx := { s.tx with
        pos := s.tx.pos + 1, cnt := s.tx.cnt + 1, crc := crcUpdate s.tx.crc b
        phase := if (s.tx.cnt + 1).toNat = s.tx.len then .crch else .pay } }) ∧
  (∀ (s : State) (rest : List Turn), s.agenda = .unit .rxd :: rest → s.rxDisturbed = true →
    s.rxbuf.holds s.rx.pos.toNat = true →
    let b := Config.disturbedByte .rxd s.rxFree
    let read (r : RxRegs) : State :=
      { s with agenda := rest, rxFree := s.rxFree + 1, rx := { r with pos := s.rx.pos + 1 } }
    (s.rx.phase = .mark → s.rx.n ≠ 0 → step s = exec (decodeMarker b) (read s.rx)) ∧
    (s.rx.phase = .lenh → s.rx.pos.toNat < s.rx.n →
      step s = .next (read { s.rx with paylen := joinBytes b (loByte s.rx.paylen), phase := .lenl })) ∧
    (s.rx.phase = .lenl → s.rx.pos.toNat < s.rx.n →
      step s = .next (read { s.rx with paylen := joinBytes (hiByte s.rx.paylen) b, phase := .size })) ∧
    (s.rx.phase = .pay → s.rxpay.holds s.rx.cnt.toNat = true →
      step s = .next { read { s.rx with
          cnt := s.rx.cnt + 1, crc := crcUpdate s.rx.crc b
          phase := if s.rx.cnt + 1 = s.rx.paylen then .crch else .pay } with
        rxpay := s.rxpay.write s.rx.cnt.toNat b }) ∧
    (s.rx.phase = .crch →
      step s = .next (read { s.rx with fcrc := joinBytes b (loByte s.rx.fcrc), phase := .crcl })) ∧
    (s.rx.phase = .crcl →
      step s = .next (read { s.rx with fcrc := joinBytes (hiByte s.rx.fcrc) b, phase := .term })) ∧
    (s.rx.phase = .term → step s = .next (read { s.rx with term := b, phase := .check })))

/-- 20_memory.md R38 bounds every access (log entry 7): a host access to a byte that a buffer does not have
stops, naming the first such byte, and a WRITE of no bytes does nothing. -/
def Obligations.AccessesBeyondABufferFault : Prop :=
  ∀ s : State,
    (∀ i, s.txfrm.holds i = false → exec (.read (.txfrm i)) s = .fault (.noSuchByte .txfrm i)) ∧
    (∀ i, s.rxpay.holds i = false → exec (.read (.rxpay i)) s = .fault (.noSuchByte .rxpay i)) ∧
    (∀ c i bytes, s.txpay.cap = some c → c < i + bytes.length → bytes ≠ [] →
      exec (.writeTxpay i bytes) s = .fault (.noSuchByte .txpay (max i c))) ∧
    (∀ c i bytes, s.rxbuf.cap = some c → c < i + bytes.length → bytes ≠ [] →
      exec (.writeRxbuf i bytes) s = .fault (.noSuchByte .rxbuf (max i c))) ∧
    (∀ i, exec (.writeTxpay i []) s = .next s ∧ exec (.writeRxbuf i []) s = .next s)

/-! ### Faults and reset -/

/-- 60_exceptions.md R144 (b) to (d), R140: a raise records the fault in its own unit, which goes idle in the
same step, and changes nothing else. -/
def Obligations.RaiseRecordsTheFault : Prop :=
  ∀ s : State,
    raiseFault .empty s =
      { s with tx := { s.tx with status := .fault, cause := .empty, flen := 0, phase := .idle } } ∧
    raiseFault .tooLong s =
      { s with tx := { s.tx with status := .fault, cause := .tooLong, flen := 0, phase := .idle } } ∧
    raiseFault .invalidCrc s =
      { s with rx := { s.rx with status := .fault, cause := .invalidCrc, consumed := 0, phase := .idle } } ∧
    raiseFault .invalidTerminator s =
      { s with rx := { s.rx with status := .fault, cause := .invalidTerminator, consumed := 0, phase := .idle } } ∧
    FaultCause.empty.kind = .invalidPayload ∧ FaultCause.tooLong.kind = .invalidPayload ∧
    FaultCause.invalidCrc.kind = .corruptPacket ∧ FaultCause.invalidTerminator.kind = .corruptPacket

/-- 60_exceptions.md R144 (e), R141: a unit's step records a fault only in T_CHECK or D_CHECK, under the
conditions of R140. -/
def Obligations.FaultsArePrecise : Prop :=
  (∀ s t, txStep s = .next t → s.tx.status ≠ .fault → t.tx.status = .fault →
    s.tx.phase = .check ∧
    (s.tx.len = 0 ∧ t.tx.cause = .empty ∨ 65536 ≤ s.tx.len ∧ t.tx.cause = .tooLong) ∧ t.txfrm = s.txfrm) ∧
  (∀ s t, rxStep exec s = .next t → s.rx.status ≠ .fault → t.rx.status = .fault →
    s.rx.phase = .check ∧
    (s.rx.crc ≠ s.rx.fcrc ∧ s.rx.mode = .raise ∧ t.rx.cause = .invalidCrc ∨
      s.rx.crc = s.rx.fcrc ∧ s.rx.term ≠ 0x03#8 ∧ t.rx.cause = .invalidTerminator))

/-- 70_reset_and_hazards.md R170, R172, R173: the reset event, at any moment, and the machine right after
reset. That the output buffers keep their bytes where a host must rely on none is the model's reading (log
entry 10), and which of the model's own fields a reset keeps or clears is its choice (log entry 14). -/
def Obligations.ResetPutsRegistersAtReset : Prop :=
  let tx0 : TxRegs :=
    { len := 0, phase := .idle, pos := 0, cnt := 0, crc := 0x0000#16, status := .never, cause := .noFault,
      flen := 0 }
  let rx0 : RxRegs :=
    { n := 0, mode := .ignore, phase := .idle, pos := 0, cnt := 0, marker := 0, payidx := 0, paylen := 0,
      fsize := 0, crc := 0x0000#16, fcrc := 0, term := 0, flags := 0, status := .never, cause := .noFault,
      consumed := 0 }
  State.reset.tx = tx0 ∧ State.reset.rx = rx0 ∧ txBusy State.reset = false ∧ rxBusy State.reset = false ∧
  ∀ (s : State) (rest : List Turn), s.agenda = .reset :: rest →
    step s = .next { s with agenda := rest, tx := tx0, rx := rx0, txDisturbed := false, rxDisturbed := false }

/-- 70_reset_and_hazards.md R171; 60_exceptions.md R164: with both units idle, a step whose turn is no start,
no operation and no reset leaves every register of both units and both output buffers as they were. -/
def Obligations.IdleBlockWaits : Prop :=
  ∀ s t : State, s.tx.phase = .idle → s.rx.phase = .idle → (nextTurn s).rouses = false → step s = .next t →
    t.tx = s.tx ∧ t.rx = s.rx ∧ t.txfrm = s.txfrm ∧ t.rxpay = s.rxpay

/-! ### The machine as a whole -/

/-- The step runs the instruction that is next: the host's action or operation from the agenda, or the row
that the marker in RXBUF selects; what it adds is that the turn leaves the agenda and that the marker has
been fetched. That a step takes the first entry of an agenda is the model's choice (log entry 3), and so is
that D_MARK runs the row its marker selects and that OPSEL selects an operation as a turn (log entry 2); the
dispatch itself is 42_deframer.md R122, and the selection by OPSEL 30_encoding.md R62. -/
def Obligations.StepRunsTheInstruction : Prop :=
  (∀ (s : State) (i : Instr), currentInstr s = some i → step s = exec i (atInstr s)) ∧
  (∀ (s : State) (a : HostAct) (rest : List Turn), s.agenda = .host a :: rest →
    step s = exec a.instr { s with agenda := rest }) ∧
  (∀ (s : State) (key : BitVec 2) (n : Nat) (rest : List Turn), s.agenda = .op key n :: rest →
    step s = exec (decodeOpsel key n) { s with agenda := rest }) ∧
  (∀ (s : State) (rest : List Turn) (i : Instr), s.agenda = .unit .rxd :: rest → s.rx.phase = .mark →
    s.rx.n ≠ 0 → s.rxDisturbed = false → s.rxbuf.holds s.rx.pos.toNat = true →
    decode [s.rxbuf.read .rxbuf s.rx.pos.toNat] = .ok i →
    step s = exec i { s with agenda := rest, rx := { s.rx with pos := s.rx.pos + 1 } })

/-- Who moves when the agenda is empty (the model's choice, log entry 3): a busy unit, TXF before RXD; with
both idle nothing changes (60_exceptions.md R164). -/
def Obligations.BusyUnitsRunOn : Prop :=
  ∀ s : State, s.agenda = [] →
    (s.tx.phase ≠ .idle → step s = txStep s) ∧
    (s.tx.phase = .idle → s.rx.phase ≠ .idle → step s = rxStep exec s) ∧
    (s.tx.phase = .idle → s.rx.phase = .idle → step s = .next s)

/-- 20_memory.md R34, R43: TXF touches its own registers and one byte of TXFRM, RXD its own registers and
one byte of RXPAY, and nothing else. -/
def Obligations.UnitsKeepToTheirFootprint : Prop :=
  (∀ s t, txStep s = .next t → SameButTx s t ∧ t.txDisturbed = s.txDisturbed ∧
    ∀ i, i ≠ s.tx.pos.toNat → t.txfrm.read .txfrm i = s.txfrm.read .txfrm i) ∧
  (∀ s t, rxStep exec s = .next t → SameButRx s t ∧ t.rxDisturbed = s.rxDisturbed ∧
    ∀ i, i ≠ s.rx.cnt.toNat → t.rxpay.read .rxpay i = s.rxpay.read .rxpay i)

/-- 60_exceptions.md R161: the two units' steps commute, so every interleaving gives the same result. -/
def Obligations.UnitStepsCommute : Prop :=
  ∀ s a b, txStep s = .next a → rxStep exec s = .next b →
    ∃ t, rxStep exec a = .next t ∧ txStep b = .next t

/-- 10_state.md R10: the outcome of an operation, every register of its unit and every byte it writes, is a
function of the operation's inputs alone. -/
def Obligations.OutcomesIgnoreHistory : Prop :=
  (∀ (s t a b : State) (n : Nat), s.tx.phase = .idle → t.tx.phase = .idle →
    (∀ i, i < n → s.txpay.read .txpay i = t.txpay.read .txpay i) →
    exec (.encodeOp n) s = .next a → exec (.encodeOp n) t = .next b →
    a.tx = b.tx ∧ ∀ i, i < a.tx.flen.toNat → a.txfrm.read .txfrm i = b.txfrm.read .txfrm i) ∧
  (∀ (s t a b : State) (n : Nat) (mode : ErrMode), s.rx.phase = .idle → t.rx.phase = .idle →
    s.rxbuf.fits n = true → t.rxbuf.fits n = true →
    (∀ i, i < n → s.rxbuf.read .rxbuf i = t.rxbuf.read .rxbuf i) →
    exec (decodeInstr mode n) s = .next a → exec (decodeInstr mode n) t = .next b →
    a.rx = b.rx ∧
      (a.rx.status = .accept → ∀ i, i < a.rx.paylen.toNat → a.rxpay.read .rxpay i = b.rxpay.read .rxpay i))

/-- 60_exceptions.md R150: repeating an operation on the same inputs gives the same outcome, faults included.
R150 speaks of the outcome. That the output buffers then read the same at every index is more: behind the
result it is the model's reading of 20_memory.md R35 (log entry 10), and in RXPAY after Discard or a fault its
choice of the rejected window (log entry 13, from 20_memory.md R36). -/
def Obligations.RepeatedOperationsAgree : Prop :=
  (∀ (s t : State) (n : Nat), s.tx.phase = .idle → exec (.encodeOp n) s = .next t →
    ∃ u, exec (.encodeOp n) t = .next u ∧ u.tx = t.tx ∧
      ∀ i, u.txfrm.read .txfrm i = t.txfrm.read .txfrm i) ∧
  (∀ (s t : State) (n : Nat) (mode : ErrMode), s.rx.phase = .idle → exec (decodeInstr mode n) s = .next t →
    ∃ u, exec (decodeInstr mode n) t = .next u ∧ u.rx = t.rx ∧
      ∀ i, u.rxpay.read .rxpay i = t.rxpay.read .rxpay i) ∧
  (∀ b x c mode, decodeBuffer b mode = .fault c → decodeBuffer (b ++ x) mode = .fault c)

/-- 20_memory.md R39; 60_exceptions.md R141: with the spec's default buffers no step ever stops, whatever
the state. -/
def Obligations.DefaultMachineNeverStops : Prop :=
  ∀ s : State, Unbounded s → ∃ t, step s = .next t ∧ Unbounded t

/-! ### Invariants -/

/-- The state after reset meets every invariant. -/
def Obligations.ResetMeetsInvariants : Prop :=
  BuffersCanonical State.reset ∧ Unbounded State.reset ∧ TxInv State.reset.tx ∧ RxInv State.reset.rx

/-- Every step keeps the canonical form of the four buffers. -/
def Obligations.StepKeepsBuffersCanonical : Prop :=
  ∀ s t : State, BuffersCanonical s → step s = .next t → BuffersCanonical t

/-- 10_state.md R13, R16, R17, R18; 41_framer.md R97 to R104: every step keeps TXF's registers as their phase
requires: no register truncates, and status, cause and frame length agree. -/
def Obligations.StepKeepsFramerInvariant : Prop :=
  ∀ s t : State, TxInv s.tx → step s = .next t → TxInv t.tx

/-- 10_state.md R13, R16, R17, R18; 42_deframer.md R119 to R131: every step keeps RXD's registers as their
phase requires: no register truncates, and status, cause and count agree. -/
def Obligations.StepKeepsDeframerInvariant : Prop :=
  ∀ s t : State, RxInv s.rx → step s = .next t → RxInv t.rx
end

