-- ==== Sys2Proof/Laws/Decode.lean ====
section
/-! SUPPORT. The laws of the codecs: byte order, the marker dispatch, and the shape of a frame. -/

namespace Sys2Proof

/-- `{hi, lo} = 256 * hi + lo` (30_encoding.md R53). -/
theorem joinBytes_toNat (a b : Byte) : (joinBytes a b).toNat = 256 * a.toNat + b.toNat := by
  simp only [joinBytes, BitVec.toNat_append]
  rw [← Nat.shiftLeft_add_eq_or_of_lt b.isLt, Nat.shiftLeft_eq]
  omega

theorem hiByte_toNat (v : Half) : (hiByte v).toNat = v.toNat / 256 := by
  have hv := v.isLt
  simp only [hiByte, BitVec.extractLsb'_toNat, Nat.shiftRight_eq_div_pow]
  omega

theorem loByte_toNat (v : Half) : (loByte v).toNat = v.toNat % 256 := by
  simp [loByte, BitVec.extractLsb'_toNat]

@[simp] theorem hiByte_joinBytes (a b : Byte) : hiByte (joinBytes a b) = a := by
  apply BitVec.eq_of_toNat_eq
  have hb := b.isLt
  rw [hiByte_toNat, joinBytes_toNat]
  omega

@[simp] theorem loByte_joinBytes (a b : Byte) : loByte (joinBytes a b) = b := by
  apply BitVec.eq_of_toNat_eq
  have hb := b.isLt
  rw [loByte_toNat, joinBytes_toNat]
  omega

@[simp] theorem joinBytes_hiByte_loByte (v : Half) : joinBytes (hiByte v) (loByte v) = v := by
  apply BitVec.eq_of_toNat_eq
  rw [joinBytes_toNat, hiByte_toNat, loByte_toNat]
  omega

/-- The markers that the format dispatch knows are those of the two frame rows (30_encoding.md R55). -/
theorem formatOf_eq_some_iff (b : Byte) (f : Format) : formatOf b = some f ↔ b = f.marker := by
  unfold formatOf
  cases f <;> by_cases hs : b = Config.markerShort <;> by_cases hl : b = Config.markerLong <;>
    simp_all [Format.marker, Config.markerShort, Config.markerLong]

/-- A marker selects a format exactly when its row is a frame row. -/
theorem decodeMarker_format (f : Format) :
    decodeMarker f.marker = (match f with | .short => .frameShort | .long => .frameLong) := by
  cases f <;> rfl

@[simp] theorem headerBytes_length (f : Format) (len : Nat) : (headerBytes f len).length = f.headerSize := by
  cases f <;> rfl

/-- The length of a frame is the size that its header announces (30_encoding.md R56). -/
theorem encodeFrame_length (f : Frame) : (encodeFrame f).length = frameSize f.format f.payload.length := by
  simp [encodeFrame, frameSize, Config.footerSize, Nat.add_assoc]

/-- No frame is larger than MAX_FRAME (00_scope.md R2). -/
theorem frameSize_le_maxFrame (f : Format) (n : Nat) (h : n ≤ Config.maxPayload) :
    frameSize f n ≤ Config.maxFrame := by
  cases f <;> simp only [frameSize, Format.headerSize, Config.hdrSizeShort, Config.hdrSizeLong,
    Config.footerSize, Config.maxPayload, Config.maxFrame] at * <;> omega

/-- No frame with a payload is smaller than MIN_FRAME_ENC (00_scope.md R2). -/
theorem minFrameEnc_le_frameSize (f : Format) (n : Nat) (h : 1 ≤ n) : Config.minFrameEnc ≤ frameSize f n := by
  cases f <;> simp only [frameSize, Format.headerSize, Config.hdrSizeShort, Config.hdrSizeLong,
    Config.footerSize, Config.minFrameEnc] <;> omega

@[simp] theorem bytesOfNat_length (n w : Nat) : (bytesOfNat n w).length = n := by
  induction n generalizing w with
  | zero => rfl
  | succ n ih => simp [bytesOfNat, ih]

end Sys2Proof
end

