-- ==== Sys2Proof/Laws/Memory.lean ====
section
/-! SUPPORT. The laws of the buffers: reading what was written, leaving the rest alone, the capacity, and
the canonical form. -/

namespace Sys2Proof.Machine

/-! ### One byte -/

theorem cellAt_setCell_self (i : Nat) (b : Byte) (cells : List Host.Cell) :
    cellAt (setCell i b cells) i = some b := by
  induction cells with
  | nil => simp [setCell, cellAt]
  | cons c rest ih =>
    obtain ⟨j, d⟩ := c
    unfold setCell
    split
    · simp [cellAt]
    · split
      · simp [cellAt]
      · rename_i h; simp [cellAt, h, ih]

theorem cellAt_setCell_ne (i j : Nat) (b : Byte) (cells : List Host.Cell) (h : j ≠ i) :
    cellAt (setCell i b cells) j = cellAt cells j := by
  induction cells with
  | nil => simp [setCell, cellAt, h]
  | cons c rest ih =>
    obtain ⟨k, d⟩ := c
    unfold setCell
    split
    · simp [cellAt, h]
    · split
      · rename_i hk; subst hk; simp [cellAt, h]
      · simp [cellAt, ih]

/-- A byte reads as it was written. -/
@[simp] theorem Memory.read_write_self (m : Memory) (sp : Space) (i : Nat) (b : Byte) :
    (m.write i b).read sp i = b := by
  simp [Memory.read, Memory.write, cellAt_setCell_self]

/-- A write leaves every other byte alone. -/
theorem Memory.read_write_ne (m : Memory) (sp : Space) (i j : Nat) (b : Byte) (h : j ≠ i) :
    (m.write i b).read sp j = m.read sp j := by
  simp [Memory.read, Memory.write, cellAt_setCell_ne i j b m.cells h]

@[simp] theorem Memory.write_cap (m : Memory) (i : Nat) (b : Byte) : (m.write i b).cap = m.cap := rfl

@[simp] theorem Memory.write_holds (m : Memory) (i j : Nat) (b : Byte) :
    (m.write i b).holds j = m.holds j := rfl

@[simp] theorem Memory.write_fits (m : Memory) (i n : Nat) (b : Byte) :
    (m.write i b).fits n = m.fits n := rfl

/-! ### Runs of bytes -/

@[simp] theorem Memory.writeBytes_cap (m : Memory) (i : Nat) (bytes : List Byte) :
    (m.writeBytes i bytes).cap = m.cap := by
  induction bytes generalizing m i with
  | nil => rfl
  | cons b rest ih => simp [Memory.writeBytes, ih]

@[simp] theorem Memory.writeBytes_holds (m : Memory) (i j : Nat) (bytes : List Byte) :
    (m.writeBytes i bytes).holds j = m.holds j := by
  simp [Memory.holds]

@[simp] theorem Memory.writeBytes_fits (m : Memory) (i n : Nat) (bytes : List Byte) :
    (m.writeBytes i bytes).fits n = m.fits n := by
  simp [Memory.fits]

/-- Bytes outside a run that is written read as before. -/
theorem Memory.read_writeBytes_outside (m : Memory) (sp : Space) (i j : Nat) (bytes : List Byte)
    (h : j < i ∨ i + bytes.length ≤ j) : (m.writeBytes i bytes).read sp j = m.read sp j := by
  induction bytes generalizing m i with
  | nil => rfl
  | cons b rest ih =>
    have hl : (b :: rest).length = rest.length + 1 := rfl
    rw [Memory.writeBytes, ih (m.write i b) (i + 1) (by omega), Memory.read_write_ne _ _ _ _ _ (by omega)]

/-- Bytes of a run that is written read as they were written. -/
theorem Memory.read_writeBytes_inside (m : Memory) (sp : Space) (i k : Nat) (bytes : List Byte) (b : Byte)
    (h : bytes[k]? = some b) : (m.writeBytes i bytes).read sp (i + k) = b := by
  induction bytes generalizing m i k with
  | nil => simp at h
  | cons c rest ih =>
    rw [Memory.writeBytes]
    cases k with
    | zero =>
      have hc : c = b := by simpa using h
      rw [Memory.read_writeBytes_outside _ _ _ _ _ (by omega), hc]
      exact Memory.read_write_self m sp i b
    | succ k =>
      have hk : rest[k]? = some b := by simpa using h
      have := ih (m.write i c) (i + 1) k hk
      rwa [show i + 1 + k = i + (k + 1) by omega] at this

/-- A run written in two parts. -/
theorem Memory.writeBytes_append (m : Memory) (i : Nat) (a b : List Byte) :
    m.writeBytes i (a ++ b) = (m.writeBytes i a).writeBytes (i + a.length) b := by
  induction a generalizing m i with
  | nil => rfl
  | cons c rest ih =>
    simp only [List.cons_append, Memory.writeBytes, ih, List.length_cons]
    congr 1
    omega

@[simp] theorem Memory.readBytes_length (m : Memory) (sp : Space) (i n : Nat) :
    (m.readBytes sp i n).length = n := by
  induction n generalizing i with
  | zero => rfl
  | succ n ih => simp [Memory.readBytes, ih]

/-- The bytes of a window, one by one. -/
theorem Memory.readBytes_getElem? (m : Memory) (sp : Space) (i n k : Nat) (h : k < n) :
    (m.readBytes sp i n)[k]? = some (m.read sp (i + k)) := by
  induction n generalizing i k with
  | zero => omega
  | succ n ih =>
    cases k with
    | zero => simp [Memory.readBytes]
    | succ k =>
      rw [Memory.readBytes, List.getElem?_cons_succ, ih (i + 1) k (by omega)]
      congr 2
      omega

/-- A window depends only on the bytes in it. -/
theorem Memory.readBytes_congr (m m' : Memory) (sp : Space) (i n : Nat)
    (h : ∀ k, k < n → m.read sp (i + k) = m'.read sp (i + k)) :
    m.readBytes sp i n = m'.readBytes sp i n := by
  apply List.ext_getElem?
  intro k
  by_cases hk : k < n
  · rw [m.readBytes_getElem? sp i n k hk, m'.readBytes_getElem? sp i n k hk, h k hk]
  · rw [List.getElem?_eq_none (by simp; omega), List.getElem?_eq_none (by simp; omega)]

/-! ### The canonical form -/

theorem risingFrom_weaken {low low' : Nat} {cells : List Host.Cell} (h : low' ≤ low)
    (hr : risingFrom low cells = true) : risingFrom low' cells = true := by
  cases cells with
  | nil => rfl
  | cons c rest =>
    simp only [risingFrom, Bool.and_eq_true, decide_eq_true_eq] at hr ⊢
    exact ⟨by omega, hr.2⟩

theorem setCell_rising (i : Nat) (b : Byte) (cells : List Host.Cell) (low : Nat) (hi : low ≤ i)
    (h : risingFrom low cells = true) : risingFrom low (setCell i b cells) = true := by
  induction cells generalizing low with
  | nil => simp [setCell, risingFrom, hi]
  | cons c rest ih =>
    obtain ⟨j, d⟩ := c
    simp only [risingFrom, Bool.and_eq_true, decide_eq_true_eq] at h
    unfold setCell
    split
    · simp only [risingFrom, Bool.and_eq_true, decide_eq_true_eq]
      exact ⟨hi, by omega, h.2⟩
    · split
      · rename_i hij
        simp only [risingFrom, Bool.and_eq_true, decide_eq_true_eq]
        exact ⟨hi, hij ▸ h.2⟩
      · simp only [risingFrom, Bool.and_eq_true, decide_eq_true_eq]
        exact ⟨h.1, ih (j + 1) (by omega) h.2⟩

theorem setCell_all (p : Host.Cell → Bool) (i : Nat) (b : Byte) (cells : List Host.Cell)
    (hi : p (i, b) = true) (h : cells.all p = true) : (setCell i b cells).all p = true := by
  induction cells with
  | nil => simp [setCell, hi]
  | cons c rest ih =>
    simp only [List.all_cons, Bool.and_eq_true] at h
    unfold setCell
    split
    · simp [hi, h.1, h.2]
    · split
      · simp [hi, h.2]
      · simp [h.1, ih h.2]

/-- Writing a byte that the buffer has keeps the canonical form. -/
theorem Memory.write_wf (m : Memory) (i : Nat) (b : Byte) (hi : m.holds i = true) (h : m.wf = true) :
    (m.write i b).wf = true := by
  simp only [Memory.wf, Bool.and_eq_true] at h ⊢
  exact ⟨setCell_rising i b m.cells 0 (Nat.zero_le i) h.1, setCell_all _ i b m.cells hi h.2⟩

/-- Writing a run of bytes that the buffer has keeps the canonical form. -/
theorem Memory.writeBytes_wf (m : Memory) (i : Nat) (bytes : List Byte)
    (hi : ∀ k, k < bytes.length → m.holds (i + k) = true) (h : m.wf = true) :
    (m.writeBytes i bytes).wf = true := by
  induction bytes generalizing m i with
  | nil => exact h
  | cons b rest ih =>
    refine ih (m.write i b) (i + 1) (fun k hk => ?_) (m.write_wf i b (hi 0 (by simp)) h)
    have := hi (k + 1) (by simpa using hk)
    rwa [show i + (k + 1) = i + 1 + k by omega] at this

/-- A buffer at power-up is canonical. -/
theorem Memory.blank_wf : Memory.blank.wf = true := rfl

/-- The four buffers right after reset are canonical. -/
theorem reset_buffers_wf : State.reset.txpay.wf = true ∧ State.reset.txfrm.wf = true ∧
    State.reset.rxbuf.wf = true ∧ State.reset.rxpay.wf = true := ⟨rfl, rfl, rfl, rfl⟩

/-! ### Capacity -/

/-- A buffer with room for `n` bytes has every index below `n`. -/
theorem Memory.holds_of_fits (m : Memory) (n i : Nat) (h : m.fits n = true) (hi : i < n) :
    m.holds i = true := by
  unfold Memory.fits at h
  unfold Memory.holds
  split <;> simp_all
  omega

/-- A run with no missing index lies in the buffer. -/
theorem Memory.holds_of_missing_none (m : Memory) (i n k : Nat) (h : m.missing i n = none) (hk : k < n) :
    m.holds (i + k) = true := by
  unfold Memory.missing at h
  unfold Memory.holds
  split <;> simp_all
  omega

/-- A run that fits has no missing index. -/
theorem Memory.missing_none_of_fits (m : Memory) (i n : Nat) (h : m.fits (i + n) = true) :
    m.missing i n = none := by
  unfold Memory.fits at h
  unfold Memory.missing
  split <;> simp_all

end Sys2Proof.Machine
end

