-- ==== Sys2Proof/Laws/State.lean ====
section
/-! SUPPORT. What each named update of the state does to each field: one lemma for each pair, so that no
later proof unfolds a record update. -/

namespace Sys2Proof.Machine

/-! ### `txGoto` -/

@[simp] theorem txGoto_tx (p : TxPhase) (s : State) : (txGoto p s).tx = { s.tx with phase := p } := rfl
@[simp] theorem txGoto_rx (p : TxPhase) (s : State) : (txGoto p s).rx = s.rx := rfl
@[simp] theorem txGoto_txpay (p : TxPhase) (s : State) : (txGoto p s).txpay = s.txpay := rfl
@[simp] theorem txGoto_txfrm (p : TxPhase) (s : State) : (txGoto p s).txfrm = s.txfrm := rfl
@[simp] theorem txGoto_rxbuf (p : TxPhase) (s : State) : (txGoto p s).rxbuf = s.rxbuf := rfl
@[simp] theorem txGoto_rxpay (p : TxPhase) (s : State) : (txGoto p s).rxpay = s.rxpay := rfl
@[simp] theorem txGoto_agenda (p : TxPhase) (s : State) : (txGoto p s).agenda = s.agenda := rfl
@[simp] theorem txGoto_answer (p : TxPhase) (s : State) : (txGoto p s).answer = s.answer := rfl
@[simp] theorem txGoto_txDisturbed (p : TxPhase) (s : State) : (txGoto p s).txDisturbed = s.txDisturbed := rfl
@[simp] theorem txGoto_rxDisturbed (p : TxPhase) (s : State) : (txGoto p s).rxDisturbed = s.rxDisturbed := rfl
@[simp] theorem txGoto_txFree (p : TxPhase) (s : State) : (txGoto p s).txFree = s.txFree := rfl
@[simp] theorem txGoto_rxFree (p : TxPhase) (s : State) : (txGoto p s).rxFree = s.rxFree := rfl

/-! ### `rxGoto` -/

@[simp] theorem rxGoto_tx (p : RxPhase) (s : State) : (rxGoto p s).tx = s.tx := rfl
@[simp] theorem rxGoto_rx (p : RxPhase) (s : State) : (rxGoto p s).rx = { s.rx with phase := p } := rfl
@[simp] theorem rxGoto_txpay (p : RxPhase) (s : State) : (rxGoto p s).txpay = s.txpay := rfl
@[simp] theorem rxGoto_txfrm (p : RxPhase) (s : State) : (rxGoto p s).txfrm = s.txfrm := rfl
@[simp] theorem rxGoto_rxbuf (p : RxPhase) (s : State) : (rxGoto p s).rxbuf = s.rxbuf := rfl
@[simp] theorem rxGoto_rxpay (p : RxPhase) (s : State) : (rxGoto p s).rxpay = s.rxpay := rfl
@[simp] theorem rxGoto_agenda (p : RxPhase) (s : State) : (rxGoto p s).agenda = s.agenda := rfl
@[simp] theorem rxGoto_answer (p : RxPhase) (s : State) : (rxGoto p s).answer = s.answer := rfl
@[simp] theorem rxGoto_txDisturbed (p : RxPhase) (s : State) : (rxGoto p s).txDisturbed = s.txDisturbed := rfl
@[simp] theorem rxGoto_rxDisturbed (p : RxPhase) (s : State) : (rxGoto p s).rxDisturbed = s.rxDisturbed := rfl
@[simp] theorem rxGoto_txFree (p : RxPhase) (s : State) : (rxGoto p s).txFree = s.txFree := rfl
@[simp] theorem rxGoto_rxFree (p : RxPhase) (s : State) : (rxGoto p s).rxFree = s.rxFree := rfl

/-! ### `raiseTx` -/

@[simp] theorem raiseTx_tx (c : TxCause) (s : State) : (raiseTx c s).tx = { s.tx with status := .fault, cause := c, flen := 0, phase := .idle } := rfl
@[simp] theorem raiseTx_rx (c : TxCause) (s : State) : (raiseTx c s).rx = s.rx := rfl
@[simp] theorem raiseTx_txpay (c : TxCause) (s : State) : (raiseTx c s).txpay = s.txpay := rfl
@[simp] theorem raiseTx_txfrm (c : TxCause) (s : State) : (raiseTx c s).txfrm = s.txfrm := rfl
@[simp] theorem raiseTx_rxbuf (c : TxCause) (s : State) : (raiseTx c s).rxbuf = s.rxbuf := rfl
@[simp] theorem raiseTx_rxpay (c : TxCause) (s : State) : (raiseTx c s).rxpay = s.rxpay := rfl
@[simp] theorem raiseTx_agenda (c : TxCause) (s : State) : (raiseTx c s).agenda = s.agenda := rfl
@[simp] theorem raiseTx_answer (c : TxCause) (s : State) : (raiseTx c s).answer = s.answer := rfl
@[simp] theorem raiseTx_txDisturbed (c : TxCause) (s : State) : (raiseTx c s).txDisturbed = s.txDisturbed := rfl
@[simp] theorem raiseTx_rxDisturbed (c : TxCause) (s : State) : (raiseTx c s).rxDisturbed = s.rxDisturbed := rfl
@[simp] theorem raiseTx_txFree (c : TxCause) (s : State) : (raiseTx c s).txFree = s.txFree := rfl
@[simp] theorem raiseTx_rxFree (c : TxCause) (s : State) : (raiseTx c s).rxFree = s.rxFree := rfl

/-! ### `raiseRx` -/

@[simp] theorem raiseRx_tx (c : RxCause) (s : State) : (raiseRx c s).tx = s.tx := rfl
@[simp] theorem raiseRx_rx (c : RxCause) (s : State) : (raiseRx c s).rx = { s.rx with status := .fault, cause := c, consumed := 0, phase := .idle } := rfl
@[simp] theorem raiseRx_txpay (c : RxCause) (s : State) : (raiseRx c s).txpay = s.txpay := rfl
@[simp] theorem raiseRx_txfrm (c : RxCause) (s : State) : (raiseRx c s).txfrm = s.txfrm := rfl
@[simp] theorem raiseRx_rxbuf (c : RxCause) (s : State) : (raiseRx c s).rxbuf = s.rxbuf := rfl
@[simp] theorem raiseRx_rxpay (c : RxCause) (s : State) : (raiseRx c s).rxpay = s.rxpay := rfl
@[simp] theorem raiseRx_agenda (c : RxCause) (s : State) : (raiseRx c s).agenda = s.agenda := rfl
@[simp] theorem raiseRx_answer (c : RxCause) (s : State) : (raiseRx c s).answer = s.answer := rfl
@[simp] theorem raiseRx_txDisturbed (c : RxCause) (s : State) : (raiseRx c s).txDisturbed = s.txDisturbed := rfl
@[simp] theorem raiseRx_rxDisturbed (c : RxCause) (s : State) : (raiseRx c s).rxDisturbed = s.rxDisturbed := rfl
@[simp] theorem raiseRx_txFree (c : RxCause) (s : State) : (raiseRx c s).txFree = s.txFree := rfl
@[simp] theorem raiseRx_rxFree (c : RxCause) (s : State) : (raiseRx c s).rxFree = s.rxFree := rfl

/-! ### `rxFinish` -/

@[simp] theorem rxFinish_tx (st : RxStatus) (n : Pos) (s : State) : (rxFinish st n s).tx = s.tx := rfl
@[simp] theorem rxFinish_rx (st : RxStatus) (n : Pos) (s : State) : (rxFinish st n s).rx = { s.rx with status := st, cause := .noFault, consumed := n, phase := .idle } := rfl
@[simp] theorem rxFinish_txpay (st : RxStatus) (n : Pos) (s : State) : (rxFinish st n s).txpay = s.txpay := rfl
@[simp] theorem rxFinish_txfrm (st : RxStatus) (n : Pos) (s : State) : (rxFinish st n s).txfrm = s.txfrm := rfl
@[simp] theorem rxFinish_rxbuf (st : RxStatus) (n : Pos) (s : State) : (rxFinish st n s).rxbuf = s.rxbuf := rfl
@[simp] theorem rxFinish_rxpay (st : RxStatus) (n : Pos) (s : State) : (rxFinish st n s).rxpay = s.rxpay := rfl
@[simp] theorem rxFinish_agenda (st : RxStatus) (n : Pos) (s : State) : (rxFinish st n s).agenda = s.agenda := rfl
@[simp] theorem rxFinish_answer (st : RxStatus) (n : Pos) (s : State) : (rxFinish st n s).answer = s.answer := rfl
@[simp] theorem rxFinish_txDisturbed (st : RxStatus) (n : Pos) (s : State) : (rxFinish st n s).txDisturbed = s.txDisturbed := rfl
@[simp] theorem rxFinish_rxDisturbed (st : RxStatus) (n : Pos) (s : State) : (rxFinish st n s).rxDisturbed = s.rxDisturbed := rfl
@[simp] theorem rxFinish_txFree (st : RxStatus) (n : Pos) (s : State) : (rxFinish st n s).txFree = s.txFree := rfl
@[simp] theorem rxFinish_rxFree (st : RxStatus) (n : Pos) (s : State) : (rxFinish st n s).rxFree = s.rxFree := rfl

/-! ### `txDone` -/

@[simp] theorem txDone_tx (s : State) : (txDone s).tx = { s.tx with flen := s.tx.pos, status := .ok, phase := .idle } := rfl
@[simp] theorem txDone_rx (s : State) : (txDone s).rx = s.rx := rfl
@[simp] theorem txDone_txpay (s : State) : (txDone s).txpay = s.txpay := rfl
@[simp] theorem txDone_txfrm (s : State) : (txDone s).txfrm = s.txfrm := rfl
@[simp] theorem txDone_rxbuf (s : State) : (txDone s).rxbuf = s.rxbuf := rfl
@[simp] theorem txDone_rxpay (s : State) : (txDone s).rxpay = s.rxpay := rfl
@[simp] theorem txDone_agenda (s : State) : (txDone s).agenda = s.agenda := rfl
@[simp] theorem txDone_answer (s : State) : (txDone s).answer = s.answer := rfl
@[simp] theorem txDone_txDisturbed (s : State) : (txDone s).txDisturbed = s.txDisturbed := rfl
@[simp] theorem txDone_rxDisturbed (s : State) : (txDone s).rxDisturbed = s.rxDisturbed := rfl
@[simp] theorem txDone_txFree (s : State) : (txDone s).txFree = s.txFree := rfl
@[simp] theorem txDone_rxFree (s : State) : (txDone s).rxFree = s.rxFree := rfl

/-! ### `dispatchFormat` -/

@[simp] theorem dispatchFormat_tx (f : Format) (p : RxPhase) (s : State) : (dispatchFormat f p s).tx = s.tx := rfl
@[simp] theorem dispatchFormat_rx (f : Format) (p : RxPhase) (s : State) : (dispatchFormat f p s).rx = { s.rx with marker := f.marker, payidx := payidxOf f, phase := p } := rfl
@[simp] theorem dispatchFormat_txpay (f : Format) (p : RxPhase) (s : State) : (dispatchFormat f p s).txpay = s.txpay := rfl
@[simp] theorem dispatchFormat_txfrm (f : Format) (p : RxPhase) (s : State) : (dispatchFormat f p s).txfrm = s.txfrm := rfl
@[simp] theorem dispatchFormat_rxbuf (f : Format) (p : RxPhase) (s : State) : (dispatchFormat f p s).rxbuf = s.rxbuf := rfl
@[simp] theorem dispatchFormat_rxpay (f : Format) (p : RxPhase) (s : State) : (dispatchFormat f p s).rxpay = s.rxpay := rfl
@[simp] theorem dispatchFormat_agenda (f : Format) (p : RxPhase) (s : State) : (dispatchFormat f p s).agenda = s.agenda := rfl
@[simp] theorem dispatchFormat_answer (f : Format) (p : RxPhase) (s : State) : (dispatchFormat f p s).answer = s.answer := rfl
@[simp] theorem dispatchFormat_txDisturbed (f : Format) (p : RxPhase) (s : State) : (dispatchFormat f p s).txDisturbed = s.txDisturbed := rfl
@[simp] theorem dispatchFormat_rxDisturbed (f : Format) (p : RxPhase) (s : State) : (dispatchFormat f p s).rxDisturbed = s.rxDisturbed := rfl
@[simp] theorem dispatchFormat_txFree (f : Format) (p : RxPhase) (s : State) : (dispatchFormat f p s).txFree = s.txFree := rfl
@[simp] theorem dispatchFormat_rxFree (f : Format) (p : RxPhase) (s : State) : (dispatchFormat f p s).rxFree = s.rxFree := rfl

/-! ### `dispatchReserved` -/

@[simp] theorem dispatchReserved_tx (b : Byte) (s : State) : (dispatchReserved b s).tx = s.tx := rfl
@[simp] theorem dispatchReserved_rx (b : Byte) (s : State) : (dispatchReserved b s).rx = { s.rx with marker := b, status := .noFrame, cause := .noFault, consumed := 0, phase := .idle } := rfl
@[simp] theorem dispatchReserved_txpay (b : Byte) (s : State) : (dispatchReserved b s).txpay = s.txpay := rfl
@[simp] theorem dispatchReserved_txfrm (b : Byte) (s : State) : (dispatchReserved b s).txfrm = s.txfrm := rfl
@[simp] theorem dispatchReserved_rxbuf (b : Byte) (s : State) : (dispatchReserved b s).rxbuf = s.rxbuf := rfl
@[simp] theorem dispatchReserved_rxpay (b : Byte) (s : State) : (dispatchReserved b s).rxpay = s.rxpay := rfl
@[simp] theorem dispatchReserved_agenda (b : Byte) (s : State) : (dispatchReserved b s).agenda = s.agenda := rfl
@[simp] theorem dispatchReserved_answer (b : Byte) (s : State) : (dispatchReserved b s).answer = s.answer := rfl
@[simp] theorem dispatchReserved_txDisturbed (b : Byte) (s : State) : (dispatchReserved b s).txDisturbed = s.txDisturbed := rfl
@[simp] theorem dispatchReserved_rxDisturbed (b : Byte) (s : State) : (dispatchReserved b s).rxDisturbed = s.rxDisturbed := rfl
@[simp] theorem dispatchReserved_txFree (b : Byte) (s : State) : (dispatchReserved b s).txFree = s.txFree := rfl
@[simp] theorem dispatchReserved_rxFree (b : Byte) (s : State) : (dispatchReserved b s).rxFree = s.rxFree := rfl

/-! ### `checkCrc` -/

@[simp] theorem checkCrc_tx (s : State) : (checkCrc s).tx = s.tx := rfl
@[simp] theorem checkCrc_rx (s : State) : (checkCrc s).rx = { s.rx with flags := setFlag s.rx.flags crcOkBit (crcMatches s.rx.crc s.rx.fcrc) } := rfl
@[simp] theorem checkCrc_txpay (s : State) : (checkCrc s).txpay = s.txpay := rfl
@[simp] theorem checkCrc_txfrm (s : State) : (checkCrc s).txfrm = s.txfrm := rfl
@[simp] theorem checkCrc_rxbuf (s : State) : (checkCrc s).rxbuf = s.rxbuf := rfl
@[simp] theorem checkCrc_rxpay (s : State) : (checkCrc s).rxpay = s.rxpay := rfl
@[simp] theorem checkCrc_agenda (s : State) : (checkCrc s).agenda = s.agenda := rfl
@[simp] theorem checkCrc_answer (s : State) : (checkCrc s).answer = s.answer := rfl
@[simp] theorem checkCrc_txDisturbed (s : State) : (checkCrc s).txDisturbed = s.txDisturbed := rfl
@[simp] theorem checkCrc_rxDisturbed (s : State) : (checkCrc s).rxDisturbed = s.rxDisturbed := rfl
@[simp] theorem checkCrc_txFree (s : State) : (checkCrc s).txFree = s.txFree := rfl
@[simp] theorem checkCrc_rxFree (s : State) : (checkCrc s).rxFree = s.rxFree := rfl

/-! ### `txStarted` -/

@[simp] theorem txStarted_tx (n : Nat) (s : State) : (txStarted n s).tx = TxRegs.started n := rfl
@[simp] theorem txStarted_rx (n : Nat) (s : State) : (txStarted n s).rx = s.rx := rfl
@[simp] theorem txStarted_txpay (n : Nat) (s : State) : (txStarted n s).txpay = s.txpay := rfl
@[simp] theorem txStarted_txfrm (n : Nat) (s : State) : (txStarted n s).txfrm = s.txfrm := rfl
@[simp] theorem txStarted_rxbuf (n : Nat) (s : State) : (txStarted n s).rxbuf = s.rxbuf := rfl
@[simp] theorem txStarted_rxpay (n : Nat) (s : State) : (txStarted n s).rxpay = s.rxpay := rfl
@[simp] theorem txStarted_agenda (n : Nat) (s : State) : (txStarted n s).agenda = s.agenda := rfl
@[simp] theorem txStarted_answer (n : Nat) (s : State) : (txStarted n s).answer = s.answer := rfl
@[simp] theorem txStarted_txDisturbed (n : Nat) (s : State) : (txStarted n s).txDisturbed = false := rfl
@[simp] theorem txStarted_rxDisturbed (n : Nat) (s : State) : (txStarted n s).rxDisturbed = s.rxDisturbed := rfl
@[simp] theorem txStarted_txFree (n : Nat) (s : State) : (txStarted n s).txFree = s.txFree := rfl
@[simp] theorem txStarted_rxFree (n : Nat) (s : State) : (txStarted n s).rxFree = s.rxFree := rfl

/-! ### `rxStarted` -/

@[simp] theorem rxStarted_tx (n : Nat) (m : ErrMode) (s : State) : (rxStarted n m s).tx = s.tx := rfl
@[simp] theorem rxStarted_rx (n : Nat) (m : ErrMode) (s : State) : (rxStarted n m s).rx = RxRegs.started n m := rfl
@[simp] theorem rxStarted_txpay (n : Nat) (m : ErrMode) (s : State) : (rxStarted n m s).txpay = s.txpay := rfl
@[simp] theorem rxStarted_txfrm (n : Nat) (m : ErrMode) (s : State) : (rxStarted n m s).txfrm = s.txfrm := rfl
@[simp] theorem rxStarted_rxbuf (n : Nat) (m : ErrMode) (s : State) : (rxStarted n m s).rxbuf = s.rxbuf := rfl
@[simp] theorem rxStarted_rxpay (n : Nat) (m : ErrMode) (s : State) : (rxStarted n m s).rxpay = s.rxpay := rfl
@[simp] theorem rxStarted_agenda (n : Nat) (m : ErrMode) (s : State) : (rxStarted n m s).agenda = s.agenda := rfl
@[simp] theorem rxStarted_answer (n : Nat) (m : ErrMode) (s : State) : (rxStarted n m s).answer = s.answer := rfl
@[simp] theorem rxStarted_txDisturbed (n : Nat) (m : ErrMode) (s : State) : (rxStarted n m s).txDisturbed = s.txDisturbed := rfl
@[simp] theorem rxStarted_rxDisturbed (n : Nat) (m : ErrMode) (s : State) : (rxStarted n m s).rxDisturbed = false := rfl
@[simp] theorem rxStarted_txFree (n : Nat) (m : ErrMode) (s : State) : (rxStarted n m s).txFree = s.txFree := rfl
@[simp] theorem rxStarted_rxFree (n : Nat) (m : ErrMode) (s : State) : (rxStarted n m s).rxFree = s.rxFree := rfl

/-! ### `resetBlock` -/

@[simp] theorem resetBlock_tx (s : State) : (resetBlock s).tx = TxRegs.reset := rfl
@[simp] theorem resetBlock_rx (s : State) : (resetBlock s).rx = RxRegs.reset := rfl
@[simp] theorem resetBlock_txpay (s : State) : (resetBlock s).txpay = s.txpay := rfl
@[simp] theorem resetBlock_txfrm (s : State) : (resetBlock s).txfrm = s.txfrm := rfl
@[simp] theorem resetBlock_rxbuf (s : State) : (resetBlock s).rxbuf = s.rxbuf := rfl
@[simp] theorem resetBlock_rxpay (s : State) : (resetBlock s).rxpay = s.rxpay := rfl
@[simp] theorem resetBlock_agenda (s : State) : (resetBlock s).agenda = s.agenda := rfl
@[simp] theorem resetBlock_answer (s : State) : (resetBlock s).answer = s.answer := rfl
@[simp] theorem resetBlock_txDisturbed (s : State) : (resetBlock s).txDisturbed = false := rfl
@[simp] theorem resetBlock_rxDisturbed (s : State) : (resetBlock s).rxDisturbed = false := rfl
@[simp] theorem resetBlock_txFree (s : State) : (resetBlock s).txFree = s.txFree := rfl
@[simp] theorem resetBlock_rxFree (s : State) : (resetBlock s).rxFree = s.rxFree := rfl

/-! ### `answerHost` -/

@[simp] theorem answerHost_tx (v : Nat) (s : State) : (answerHost v s).tx = s.tx := rfl
@[simp] theorem answerHost_rx (v : Nat) (s : State) : (answerHost v s).rx = s.rx := rfl
@[simp] theorem answerHost_txpay (v : Nat) (s : State) : (answerHost v s).txpay = s.txpay := rfl
@[simp] theorem answerHost_txfrm (v : Nat) (s : State) : (answerHost v s).txfrm = s.txfrm := rfl
@[simp] theorem answerHost_rxbuf (v : Nat) (s : State) : (answerHost v s).rxbuf = s.rxbuf := rfl
@[simp] theorem answerHost_rxpay (v : Nat) (s : State) : (answerHost v s).rxpay = s.rxpay := rfl
@[simp] theorem answerHost_agenda (v : Nat) (s : State) : (answerHost v s).agenda = s.agenda := rfl
@[simp] theorem answerHost_answer (v : Nat) (s : State) : (answerHost v s).answer = some v := rfl
@[simp] theorem answerHost_txDisturbed (v : Nat) (s : State) : (answerHost v s).txDisturbed = s.txDisturbed := rfl
@[simp] theorem answerHost_rxDisturbed (v : Nat) (s : State) : (answerHost v s).rxDisturbed = s.rxDisturbed := rfl
@[simp] theorem answerHost_txFree (v : Nat) (s : State) : (answerHost v s).txFree = s.txFree := rfl
@[simp] theorem answerHost_rxFree (v : Nat) (s : State) : (answerHost v s).rxFree = s.rxFree := rfl

/-! ### `popTurn` -/

@[simp] theorem popTurn_tx (s : State) : (popTurn s).tx = s.tx := rfl
@[simp] theorem popTurn_rx (s : State) : (popTurn s).rx = s.rx := rfl
@[simp] theorem popTurn_txpay (s : State) : (popTurn s).txpay = s.txpay := rfl
@[simp] theorem popTurn_txfrm (s : State) : (popTurn s).txfrm = s.txfrm := rfl
@[simp] theorem popTurn_rxbuf (s : State) : (popTurn s).rxbuf = s.rxbuf := rfl
@[simp] theorem popTurn_rxpay (s : State) : (popTurn s).rxpay = s.rxpay := rfl
@[simp] theorem popTurn_agenda (s : State) : (popTurn s).agenda = s.agenda.tail := rfl
@[simp] theorem popTurn_answer (s : State) : (popTurn s).answer = s.answer := rfl
@[simp] theorem popTurn_txDisturbed (s : State) : (popTurn s).txDisturbed = s.txDisturbed := rfl
@[simp] theorem popTurn_rxDisturbed (s : State) : (popTurn s).rxDisturbed = s.rxDisturbed := rfl
@[simp] theorem popTurn_txFree (s : State) : (popTurn s).txFree = s.txFree := rfl
@[simp] theorem popTurn_rxFree (s : State) : (popTurn s).rxFree = s.rxFree := rfl

/-! ### `setAcc`, and the CRC operations over it -/

@[simp] theorem setAcc_txpay (u : CodecUnit) (v : Half) (s : State) : (setAcc u v s).txpay = s.txpay := by
  cases u <;> rfl
@[simp] theorem setAcc_txfrm (u : CodecUnit) (v : Half) (s : State) : (setAcc u v s).txfrm = s.txfrm := by
  cases u <;> rfl
@[simp] theorem setAcc_rxbuf (u : CodecUnit) (v : Half) (s : State) : (setAcc u v s).rxbuf = s.rxbuf := by
  cases u <;> rfl
@[simp] theorem setAcc_rxpay (u : CodecUnit) (v : Half) (s : State) : (setAcc u v s).rxpay = s.rxpay := by
  cases u <;> rfl
@[simp] theorem setAcc_agenda (u : CodecUnit) (v : Half) (s : State) : (setAcc u v s).agenda = s.agenda := by
  cases u <;> rfl
@[simp] theorem setAcc_answer (u : CodecUnit) (v : Half) (s : State) : (setAcc u v s).answer = s.answer := by
  cases u <;> rfl
@[simp] theorem setAcc_txDisturbed (u : CodecUnit) (v : Half) (s : State) : (setAcc u v s).txDisturbed = s.txDisturbed := by
  cases u <;> rfl
@[simp] theorem setAcc_rxDisturbed (u : CodecUnit) (v : Half) (s : State) : (setAcc u v s).rxDisturbed = s.rxDisturbed := by
  cases u <;> rfl
@[simp] theorem setAcc_txFree (u : CodecUnit) (v : Half) (s : State) : (setAcc u v s).txFree = s.txFree := by
  cases u <;> rfl
@[simp] theorem setAcc_rxFree (u : CodecUnit) (v : Half) (s : State) : (setAcc u v s).rxFree = s.rxFree := by
  cases u <;> rfl
@[simp] theorem setAcc_txf_tx (v : Half) (s : State) : (setAcc .txf v s).tx = { s.tx with crc := v } := rfl
@[simp] theorem setAcc_txf_rx (v : Half) (s : State) : (setAcc .txf v s).rx = s.rx := rfl
@[simp] theorem setAcc_rxd_tx (v : Half) (s : State) : (setAcc .rxd v s).tx = s.tx := rfl
@[simp] theorem setAcc_rxd_rx (v : Half) (s : State) : (setAcc .rxd v s).rx = { s.rx with crc := v } := rfl

/-- The accumulator reads as it was written. -/
@[simp] theorem accOf_setAcc (u : CodecUnit) (v : Half) (s : State) : accOf u (setAcc u v s) = v := by
  cases u <;> rfl

/-- The last write of an accumulator wins. -/
@[simp] theorem setAcc_setAcc (u : CodecUnit) (v w : Half) (s : State) :
    setAcc u w (setAcc u v s) = setAcc u w s := by
  cases u <;> rfl

/-- CRC.UPD byte by byte is one fold into the accumulator. -/
theorem updateAccBytes_eq_setAcc (u : CodecUnit) (bytes : List Byte) (s : State) :
    updateAccBytes u bytes s = setAcc u (crcFold (accOf u s) bytes) s := by
  induction bytes generalizing s with
  | nil => cases u <;> rfl
  | cons b rest ih =>
    have h : updateAccBytes u (b :: rest) s = updateAccBytes u rest (updateAcc u b s) := rfl
    rw [h, ih]
    simp [updateAcc, crcFold]

/-! ### `txReadDone`, `rxReadDone` and `fetched` -/

@[simp] theorem txReadDone_tx (s : State) : (txReadDone s).tx = s.tx := by
  unfold txReadDone; split <;> rfl
@[simp] theorem txReadDone_rx (s : State) : (txReadDone s).rx = s.rx := by
  unfold txReadDone; split <;> rfl
@[simp] theorem txReadDone_txpay (s : State) : (txReadDone s).txpay = s.txpay := by
  unfold txReadDone; split <;> rfl
@[simp] theorem txReadDone_txfrm (s : State) : (txReadDone s).txfrm = s.txfrm := by
  unfold txReadDone; split <;> rfl
@[simp] theorem txReadDone_rxbuf (s : State) : (txReadDone s).rxbuf = s.rxbuf := by
  unfold txReadDone; split <;> rfl
@[simp] theorem txReadDone_rxpay (s : State) : (txReadDone s).rxpay = s.rxpay := by
  unfold txReadDone; split <;> rfl
@[simp] theorem txReadDone_agenda (s : State) : (txReadDone s).agenda = s.agenda := by
  unfold txReadDone; split <;> rfl
@[simp] theorem txReadDone_answer (s : State) : (txReadDone s).answer = s.answer := by
  unfold txReadDone; split <;> rfl
@[simp] theorem txReadDone_txDisturbed (s : State) : (txReadDone s).txDisturbed = s.txDisturbed := by
  unfold txReadDone; split <;> rfl
@[simp] theorem txReadDone_rxDisturbed (s : State) : (txReadDone s).rxDisturbed = s.rxDisturbed := by
  unfold txReadDone; split <;> rfl
@[simp] theorem txReadDone_rxFree (s : State) : (txReadDone s).rxFree = s.rxFree := by
  unfold txReadDone; split <;> rfl
@[simp] theorem rxReadDone_tx (s : State) : (rxReadDone s).tx = s.tx := by
  unfold rxReadDone; split <;> rfl
@[simp] theorem rxReadDone_rx (s : State) : (rxReadDone s).rx = s.rx := by
  unfold rxReadDone; split <;> rfl
@[simp] theorem rxReadDone_txpay (s : State) : (rxReadDone s).txpay = s.txpay := by
  unfold rxReadDone; split <;> rfl
@[simp] theorem rxReadDone_txfrm (s : State) : (rxReadDone s).txfrm = s.txfrm := by
  unfold rxReadDone; split <;> rfl
@[simp] theorem rxReadDone_rxbuf (s : State) : (rxReadDone s).rxbuf = s.rxbuf := by
  unfold rxReadDone; split <;> rfl
@[simp] theorem rxReadDone_rxpay (s : State) : (rxReadDone s).rxpay = s.rxpay := by
  unfold rxReadDone; split <;> rfl
@[simp] theorem rxReadDone_agenda (s : State) : (rxReadDone s).agenda = s.agenda := by
  unfold rxReadDone; split <;> rfl
@[simp] theorem rxReadDone_answer (s : State) : (rxReadDone s).answer = s.answer := by
  unfold rxReadDone; split <;> rfl
@[simp] theorem rxReadDone_txDisturbed (s : State) : (rxReadDone s).txDisturbed = s.txDisturbed := by
  unfold rxReadDone; split <;> rfl
@[simp] theorem rxReadDone_rxDisturbed (s : State) : (rxReadDone s).rxDisturbed = s.rxDisturbed := by
  unfold rxReadDone; split <;> rfl
@[simp] theorem rxReadDone_txFree (s : State) : (rxReadDone s).txFree = s.txFree := by
  unfold rxReadDone; split <;> rfl
@[simp] theorem fetched_tx (s : State) : (fetched s).tx = s.tx := by
  simp [fetched]
@[simp] theorem fetched_rx (s : State) : (fetched s).rx = { s.rx with pos := s.rx.pos + 1 } := by
  simp [fetched]
@[simp] theorem fetched_txpay (s : State) : (fetched s).txpay = s.txpay := by
  simp [fetched]
@[simp] theorem fetched_txfrm (s : State) : (fetched s).txfrm = s.txfrm := by
  simp [fetched]
@[simp] theorem fetched_rxbuf (s : State) : (fetched s).rxbuf = s.rxbuf := by
  simp [fetched]
@[simp] theorem fetched_rxpay (s : State) : (fetched s).rxpay = s.rxpay := by
  simp [fetched]
@[simp] theorem fetched_agenda (s : State) : (fetched s).agenda = s.agenda := by
  simp [fetched]
@[simp] theorem fetched_answer (s : State) : (fetched s).answer = s.answer := by
  simp [fetched]
@[simp] theorem fetched_txDisturbed (s : State) : (fetched s).txDisturbed = s.txDisturbed := by
  simp [fetched]
@[simp] theorem fetched_rxDisturbed (s : State) : (fetched s).rxDisturbed = s.rxDisturbed := by
  simp [fetched]
@[simp] theorem fetched_txFree (s : State) : (fetched s).txFree = s.txFree := by
  simp [fetched]

/-- A read of TXF in an undisturbed operation leaves nothing to note. -/
theorem txReadDone_undisturbed (s : State) (h : s.txDisturbed = false) : txReadDone s = s := by
  simp [txReadDone, h]

/-- A fetch of RXD in an undisturbed operation only moves RX_POS. -/
theorem fetched_undisturbed (s : State) (h : s.rxDisturbed = false) :
    fetched s = { s with rx := { s.rx with pos := s.rx.pos + 1 } } := by
  simp [fetched, rxReadDone, h]

end Sys2Proof.Machine
end

