-- ==== Sys2Proof/Laws/Ops.lean ====
section
/-! SUPPORT. Each shared operation said once: if it answers a next state, then one of these cases holds. -/

namespace Sys2Proof.Machine

/-- `emit`: the byte stands in TXFRM at TX_POS, TX_POS has advanced, and the rest of the step followed. -/
theorem emitThen_next {b : Byte} {s t : State} {k : State → State} :
    emitThen b s k = .next t ↔
      s.txfrm.holds s.tx.pos.toNat = true ∧
      t = k { s with
        txfrm := s.txfrm.write s.tx.pos.toNat b
        tx := { s.tx with pos := s.tx.pos + 1 } } := by
  unfold emitThen
  cases s.txfrm.holds s.tx.pos.toNat <;> simp [eq_comm (a := t)]

/-- `fetch`: the byte at RX_POS was there, and the rest of the step followed on it. -/
theorem fetchThen_next {s t : State} {k : Byte → State → Out} :
    fetchThen s k = .next t ↔
      s.rxbuf.holds s.rx.pos.toNat = true ∧ k (rxbufByte s s.rx.pos.toNat) (fetched s) = .next t := by
  unfold fetchThen
  cases s.rxbuf.holds s.rx.pos.toNat <;> simp

/-- A header step: the header ends here with NoFrame, or its next byte was fetched. -/
theorem headerThen_next {s t : State} {k : Byte → State → State} :
    headerThen s k = .next t ↔
      (s.rx.n ≤ s.rx.pos.toNat ∧ t = rxFinish .noFrame 0 s) ∨
      (s.rx.pos.toNat < s.rx.n ∧ s.rxbuf.holds s.rx.pos.toNat = true ∧
        t = k (rxbufByte s s.rx.pos.toNat) (fetched s)) := by
  unfold headerThen
  split
  · rename_i h
    simp [h, show ¬ s.rx.pos.toNat < s.rx.n by omega, eq_comm (a := t)]
  · rename_i h
    simp [fetchThen_next, h, show s.rx.pos.toNat < s.rx.n by omega, eq_comm (a := t)]

/-- A `tx_start`: it was not taken, or it was and the operation followed. -/
theorem startTxThen_next {n : Nat} {s t : State} {k : State → State} :
    startTxThen n s k = .next t ↔
      (txBusy s = true ∧ t = s) ∨ (txBusy s = false ∧ txTooSmall n s = none ∧ t = k (txStarted n s)) := by
  unfold startTxThen txTakes
  cases hb : txBusy s
  · cases ht : txTooSmall n s <;> simp [eq_comm (a := t)]
  · simp [eq_comm (a := t)]

/-- An `rx_start`: it was not taken, or it was and the operation followed. -/
theorem startRxThen_next {n : Nat} {m : ErrMode} {s t : State} {k : State → State} :
    startRxThen n m s k = .next t ↔
      (rxTakes n s = false ∧ t = s) ∨
      (rxTakes n s = true ∧ rxTooSmall n s = none ∧ t = k (rxStarted n m s)) := by
  unfold startRxThen
  cases hb : rxTakes n s
  · simp [eq_comm (a := t)]
  · cases ht : rxTooSmall n s <;> simp [eq_comm (a := t)]

/-- A start that is taken with room in the buffers completes. -/
theorem startTxThen_taken {n : Nat} {s : State} {k : State → State} (hb : s.tx.phase = .idle)
    (hf : txTooSmall n s = none) : startTxThen n s k = .next (k (txStarted n s)) := by
  simp [startTxThen, txTakes, txBusy, hb, hf]

/-- The same on the receive side. -/
theorem startRxThen_taken {n : Nat} {m : ErrMode} {s : State} {k : State → State} (hb : s.rx.phase = .idle)
    (hc : s.rxbuf.fits n = true) (hf : rxTooSmall n s = none) :
    startRxThen n m s k = .next (k (rxStarted n m s)) := by
  simp [startRxThen, rxTakes, rxBusy, hb, hc, hf]

/-- No buffer is too small for an ENCODE when none has a bound. -/
theorem txTooSmall_unbounded (n : Nat) (s : State) (hp : s.txpay.cap = none) (hf : s.txfrm.cap = none) :
    txTooSmall n s = none := by
  simp [txTooSmall, Memory.fits, hp, hf]

/-- No buffer is too small for a DECODE when RXPAY has no bound. -/
theorem rxTooSmall_unbounded (n : Nat) (s : State) (h : s.rxpay.cap = none) : rxTooSmall n s = none := by
  simp [rxTooSmall, h]

/-- RXPAY is not too small for a DECODE whose frame, if there is one, has a payload that fits it. -/
theorem rxTooSmall_eq_none_iff (n : Nat) (s : State) :
    rxTooSmall n s = none ↔ s.rxpay.cap = none ∨ payloadDoesNotFit n s = false := by
  unfold rxTooSmall
  cases s.rxpay.cap <;> cases payloadDoesNotFit n s <;> simp

/-- What T_PAY does once its byte is emitted. -/
theorem txPaid_tx (b : Byte) (s : State) :
    (txPaid b s).tx = { s.tx with
      crc := crcUpdate s.tx.crc b
      cnt := s.tx.cnt + 1
      phase := if (s.tx.cnt + 1).toNat = s.tx.len then .crch else s.tx.phase } := rfl

/-- What D_PAY does once its byte is in RXPAY. -/
theorem rxPaid_rx (b : Byte) (s : State) :
    (rxPaid b s).rx = { s.rx with
      crc := crcUpdate s.rx.crc b
      cnt := s.rx.cnt + 1
      phase := if s.rx.cnt + 1 = s.rx.paylen then .crch else s.rx.phase } := rfl

/-- The 17-bit sum of D_SIZE does not wrap (10_state.md R13). -/
theorem sizeSum_toNat (i : BitVec 2) (l : Half) : (sizeSum i l).toNat = i.toNat + l.toNat + 3 := by
  have hi := i.isLt
  have hl := l.isLt
  simp only [sizeSum, Config.footerSize, BitVec.toNat_add, BitVec.truncate_eq_setWidth, BitVec.toNat_setWidth,
    BitVec.toNat_ofNat]
  omega

/-- What a POLL or a READ of a register answers. -/
theorem execRead_reg (r : Reg) (s : State) : execRead (.reg r) s = .next (answerHost (regValue r s) s) := rfl

/-- A READ of an output byte: the byte is there, and only the answer is new. -/
theorem readOutput_next {sp : Space} {m : Memory} {i : Nat} {s t : State} :
    readOutput sp m i s = .next t ↔ m.holds i = true ∧ t = answerHost (m.read sp i).toNat s := by
  unfold readOutput
  cases m.holds i <;> simp [eq_comm (a := t)]

/-- A host write: some byte of the run is not there, or all bytes were written. -/
theorem execWriteTxpay_next {i : Nat} {bytes : List Byte} {s t : State} :
    execWriteTxpay i bytes s = .next t ↔
      s.txpay.missing i bytes.length = none ∧
      t = { s with
        txpay := s.txpay.writeBytes i bytes
        txDisturbed := s.txDisturbed || (txBusy s && !bytes.isEmpty) } := by
  unfold execWriteTxpay
  cases s.txpay.missing i bytes.length <;> simp [eq_comm (a := t)]

theorem execWriteRxbuf_next {i : Nat} {bytes : List Byte} {s t : State} :
    execWriteRxbuf i bytes s = .next t ↔
      s.rxbuf.missing i bytes.length = none ∧
      t = { s with
        rxbuf := s.rxbuf.writeBytes i bytes
        rxDisturbed := s.rxDisturbed || (rxBusy s && !bytes.isEmpty) } := by
  unfold execWriteRxbuf
  cases s.rxbuf.missing i bytes.length <;> simp [eq_comm (a := t)]

end Sys2Proof.Machine
end

