-- ==== Sys2Proof/Laws/PerInstr.lean ====
section
/-! SUPPORT. A statement about every instruction as syntax, made per instruction: the words that an
instruction has are words of its row of spec/opcode_table.json. -/

namespace Sys2Proof.Laws.WordsOfRow

/-- Is a key a word of the row of an instruction: does it match under the row's mask? A row without an
encoding has no words. -/
def admits (i : Instr) (k : Key) : Bool :=
  match i, k with
  | .frameShort, .marker b => rowAdmits 0xFF#8 0x02#8 b
  | .frameLong, .marker b => rowAdmits 0xFF#8 0x03#8 b
  | .markerReserved0 _, .marker b => rowAdmits 0xFE#8 0x00#8 b
  | .markerReserved1 _, .marker b => rowAdmits 0xFC#8 0x04#8 b
  | .markerReserved2 _, .marker b => rowAdmits 0xF8#8 0x08#8 b
  | .markerReserved3 _, .marker b => rowAdmits 0xF0#8 0x10#8 b
  | .markerReserved4 _, .marker b => rowAdmits 0xE0#8 0x20#8 b
  | .markerReserved5 _, .marker b => rowAdmits 0xC0#8 0x40#8 b
  | .markerReserved6 _, .marker b => rowAdmits 0x80#8 0x80#8 b
  | .encodeOp _, .opsel k => (k &&& 0b10#2) == 0b00#2
  | .decodeIgnore _, .opsel k => (k &&& 0b11#2) == 0b10#2
  | .decodeRaise _, .opsel k => (k &&& 0b11#2) == 0b11#2
  | _, _ => false

/-- Every word of a well-formed instruction is a word of its row. -/
def Statement (i : Instr) : Prop := wellFormed i = true → ∀ k, encode i = some k → admits i k = true

theorem frameShort : Statement .frameShort := by
  intro _ k h; cases h; rfl
theorem frameLong : Statement .frameLong := by
  intro _ k h; cases h; rfl
theorem markerReserved0 (b : Byte) : Statement (.markerReserved0 b) := by
  intro hw k h; cases h; exact hw
theorem markerReserved1 (b : Byte) : Statement (.markerReserved1 b) := by
  intro hw k h; cases h; exact hw
theorem markerReserved2 (b : Byte) : Statement (.markerReserved2 b) := by
  intro hw k h; cases h; exact hw
theorem markerReserved3 (b : Byte) : Statement (.markerReserved3 b) := by
  intro hw k h; cases h; exact hw
theorem markerReserved4 (b : Byte) : Statement (.markerReserved4 b) := by
  intro hw k h; cases h; exact hw
theorem markerReserved5 (b : Byte) : Statement (.markerReserved5 b) := by
  intro hw k h; cases h; exact hw
theorem markerReserved6 (b : Byte) : Statement (.markerReserved6 b) := by
  intro hw k h; cases h; exact hw
theorem encodeOp (n : Nat) : Statement (.encodeOp n) := by
  intro _ k h; cases h; rfl
theorem decodeIgnore (n : Nat) : Statement (.decodeIgnore n) := by
  intro _ k h; cases h; rfl
theorem decodeRaise (n : Nat) : Statement (.decodeRaise n) := by
  intro _ k h; cases h; rfl
theorem crcClr (u : CodecUnit) : Statement (.crcClr u) := by
  intro _ k h; cases h
theorem crcUpd (u : CodecUnit) (b : Byte) : Statement (.crcUpd u b) := by
  intro _ k h; cases h
theorem crc16 (u : CodecUnit) (bytes : List Byte) : Statement (.crc16 u bytes) := by
  intro _ k h; cases h
theorem crcChk : Statement .crcChk := by
  intro _ k h; cases h
theorem startTx (n : Nat) : Statement (.startTx n) := by
  intro _ k h; cases h
theorem startRx (n : Nat) (m : ErrMode) : Statement (.startRx n m) := by
  intro _ k h; cases h
theorem poll (u : CodecUnit) : Statement (.poll u) := by
  intro _ k h; cases h
theorem read (t : ReadTarget) : Statement (.read t) := by
  intro _ k h; cases h
theorem writeTxpay (i : Nat) (bytes : List Byte) : Statement (.writeTxpay i bytes) := by
  intro _ k h; cases h
theorem writeRxbuf (i : Nat) (bytes : List Byte) : Statement (.writeRxbuf i bytes) := by
  intro _ k h; cases h

end Sys2Proof.Laws.WordsOfRow
end

