-- ==== Sys2Proof/Laws/Step.lean ====
section
/-! SUPPORT. The laws of the step and of runs. -/

namespace Sys2Proof.Machine

/-- A step with a turn on the agenda takes that turn. -/
theorem step_turn (s : State) (t : Turn) (rest : List Turn) (h : s.agenda = t :: rest) :
    step s = takeTurn t { s with agenda := rest } := by
  simp [step, nextTurn, popTurn, h]

/-- An idle TXF takes no step. -/
theorem txStep_idle (s : State) (h : s.tx.phase = .idle) : txStep s = .next s := by
  simp [txStep, h]

/-- An idle RXD takes no step, whatever runs the marker rows. -/
theorem rxStep_idle (run : Instr → State → Out) (s : State) (h : s.rx.phase = .idle) :
    rxStep run s = .next s := by
  simp [rxStep, h]

/-- A step with nothing on the agenda is a step of the unit that is busy. -/
theorem step_no_turn (s : State) (h : s.agenda = []) :
    step s = takeTurn (if txBusy s then .unit .txf else .unit .rxd) s := by
  have hs : popTurn s = s := by
    cases s
    simp_all [popTurn]
  simp [step, nextTurn, hs, h]

@[simp] theorem takeTurn_host (a : HostAct) (s : State) : takeTurn (.host a) s = exec a.instr s := rfl
@[simp] theorem takeTurn_op (k : BitVec 2) (n : Nat) (s : State) :
    takeTurn (.op k n) s = exec (decodeOpsel k n) s := rfl
@[simp] theorem takeTurn_txf (s : State) : takeTurn (.unit .txf) s = txStep s := rfl
@[simp] theorem takeTurn_rxd (s : State) : takeTurn (.unit .rxd) s = rxStep exec s := rfl
@[simp] theorem takeTurn_reset (s : State) : takeTurn .reset s = .next (resetBlock s) := rfl

@[simp] theorem steps_zero (s : State) : steps 0 s = .next s := rfl

/-- A run whose first step goes on. -/
theorem steps_succ_next (k : Nat) (s t : State) (h : step s = .next t) : steps (k + 1) s = steps k t := by
  simp [steps, h]

/-- A run in two parts. -/
theorem steps_add (j k : Nat) (s t : State) (h : steps j s = .next t) : steps (j + k) s = steps k t := by
  induction j generalizing s with
  | zero =>
    have : s = t := by simpa using h
    simp [this]
  | succ j ih =>
    rw [show j + 1 + k = (j + k) + 1 by omega]
    cases hs : step s with
    | next u =>
      rw [steps_succ_next _ _ _ hs] at h ⊢
      exact ih u h
    | fault r => simp [steps, hs] at h
    | refused r => simp [steps, hs] at h

/-- An invariant that every step keeps holds along every run. -/
theorem steps_keep (P : State → Prop) (hstep : ∀ s t, P s → step s = .next t → P t) (k : Nat) (s t : State)
    (hs : P s) (h : steps k s = .next t) : P t := by
  induction k generalizing s with
  | zero =>
    have : s = t := by simpa using h
    exact this ▸ hs
  | succ k ih =>
    cases hu : step s with
    | next u =>
      rw [steps_succ_next _ _ _ hu] at h
      exact ih u (hstep s u hs hu) h
    | fault r => simp [steps, hu] at h
    | refused r => simp [steps, hu] at h

end Sys2Proof.Machine
end

