-- ==== Sys2Proof/Tests/Slice0.lean ====
section
/-! SUPPORT. Tests. Expected results come from the spec: its encodings (30_encoding.md, spec/opcode_table.json)
and its vectors (95_test_vectors.md), named where they are used. The last part shows, for every statement
with hypotheses, a state and operands that meet them. -/

namespace Sys2Proof.Tests

open Sys2Proof Sys2Proof.Machine

/-! ### Helpers -/

/-- The next state of an outcome, where there is one. -/
def after : Out → Option State
  | .next s => some s
  | _ => none

/-- A machine after reset whose TXPAY begins with these bytes. -/
def withPayload (bytes : List Byte) : State := { State.reset with txpay := Memory.blank.writeBytes 0 bytes }

/-- A machine after reset whose RXBUF begins with these bytes. -/
def withBuffer (bytes : List Byte) : State := { State.reset with rxbuf := Memory.blank.writeBytes 0 bytes }

/-- TXF in a phase, with a length and a position, about to step. -/
def txAt (p : TxPhase) (len pos cnt : Nat) : State :=
  { withPayload [0x04#8] with
    tx := { TxRegs.started len with phase := p, pos := BitVec.ofNat 17 pos, cnt := BitVec.ofNat 16 cnt }
    agenda := [.unit .txf] }

/-- RXD in a phase on the six bytes of V-DEC-13, about to step. -/
def rxAt (p : RxPhase) (pos cnt : Nat) : State :=
  { withBuffer [0x02#8, 0x01#8, 0x04#8, 0x40#8, 0x84#8, 0x03#8] with
    rx := { RxRegs.started 6 .ignore with
      phase := p, pos := BitVec.ofNat 17 pos, cnt := BitVec.ofNat 16 cnt, marker := 0x02#8, payidx := 2
      paylen := 1, fsize := 6, flags := 0b0011#4 }
    agenda := [.unit .rxd] }

/-! ### WellFormed: an ill-formed term for each check -/

theorem test_wf_refuses_reserved0 : wellFormed (.markerReserved0 0x02#8) = false := by decide
theorem test_wf_refuses_reserved1 : wellFormed (.markerReserved1 0x03#8) = false := by decide
theorem test_wf_refuses_reserved2 : wellFormed (.markerReserved2 0x10#8) = false := by decide
theorem test_wf_refuses_reserved3 : wellFormed (.markerReserved3 0x0F#8) = false := by decide
theorem test_wf_refuses_reserved4 : wellFormed (.markerReserved4 0x40#8) = false := by decide
theorem test_wf_refuses_reserved5 : wellFormed (.markerReserved5 0x80#8) = false := by decide
theorem test_wf_refuses_reserved6 : wellFormed (.markerReserved6 0x7F#8) = false := by decide

/-! ### Decode: a word of each row that has one, bit by bit from its encoding -/

theorem test_decode_frameShort : decodeTableWord 8 0b00000010 = some .frameShort := by decide
theorem test_decode_frameLong : decodeTableWord 8 0b00000011 = some .frameLong := by decide
theorem test_decode_reserved0 : decodeTableWord 8 0b00000001 = some (.markerReserved0 0x01#8) := by decide
theorem test_decode_reserved1 : decodeTableWord 8 0b00000101 = some (.markerReserved1 0x05#8) := by decide
theorem test_decode_reserved2 : decodeTableWord 8 0b00001010 = some (.markerReserved2 0x0A#8) := by decide
theorem test_decode_reserved3 : decodeTableWord 8 0b00010110 = some (.markerReserved3 0x16#8) := by decide
theorem test_decode_reserved4 : decodeTableWord 8 0b00111001 = some (.markerReserved4 0x39#8) := by decide
theorem test_decode_reserved5 : decodeTableWord 8 0b01000010 = some (.markerReserved5 0x42#8) := by decide
theorem test_decode_reserved6 : decodeTableWord 8 0b10000011 = some (.markerReserved6 0x83#8) := by decide
theorem test_decode_encode : decodeTableWord 2 0b01 = some (.encodeOp 0) := by decide
theorem test_decode_decodeIgnore : decodeTableWord 2 0b10 = some (.decodeIgnore 0) := by decide
theorem test_decode_decodeRaise : decodeTableWord 2 0b11 = some (.decodeRaise 0) := by decide

/-- V-DEC-22, V-DEC-13: header and frame of the format codec. -/
theorem test_decodeFrame_short :
    decodeFrame [0x02#8, 0x01#8, 0x04#8, 0x40#8, 0x84#8, 0x03#8, 0x02#8] =
      .ok { format := .short, payload := [0x04#8], crc := 0x4084#16, term := 0x03#8 } := by decide
theorem test_decodeFrame_incomplete :
    decodeFrame [0x03#8, 0x01#8, 0x04#8, 0x40#8, 0x84#8, 0x03#8] = .error (.sizeShort .long 260) := by decide

/-- 00_scope.md R2: the constants that follow from the others. -/
theorem test_constants :
    Config.maxPayload = Config.lenLimit - 1 ∧ Config.minFrameEnc = frameSize .short 1 ∧
    Config.maxFrame = frameSize .long Config.maxPayload ∧ Format.short.maxLen = 255 ∧
    Format.long.maxLen = 65535 := by decide

/-! ### Meanings, one step each -/

/-- 42_deframer.md R122; trace 3.2, step 1. -/
theorem test_frameShort :
    (after (step (State.reset.withFetchWord 8 0x02))).map (fun t => (t.rx.phase, t.rx.pos, t.rx.payidx)) =
      some (.lenl, 1, 2) := by decide
/-- 42_deframer.md R122. -/
theorem test_frameLong :
    (after (step (State.reset.withFetchWord 8 0x03))).map (fun t => (t.rx.phase, t.rx.pos, t.rx.payidx)) =
      some (.lenh, 1, 3) := by decide
/-- V-DEC-2 to V-DEC-5 and the like: NoFrame, one byte read, nothing consumed. -/
theorem test_markerReserved0 : (after (step (State.reset.withFetchWord 8 0x00))).map
    (fun t => (t.rx.status, t.rx.pos, t.rx.consumed, t.rx.phase)) = some (.noFrame, 1, 0, .idle) := by decide
theorem test_markerReserved1 : (after (step (State.reset.withFetchWord 8 0x04))).map
    (fun t => (t.rx.status, t.rx.marker)) = some (.noFrame, 0x04#8) := by decide
theorem test_markerReserved2 : (after (step (State.reset.withFetchWord 8 0x08))).map
    (fun t => (t.rx.status, t.rx.marker)) = some (.noFrame, 0x08#8) := by decide
theorem test_markerReserved3 : (after (step (State.reset.withFetchWord 8 0x10))).map
    (fun t => (t.rx.status, t.rx.marker)) = some (.noFrame, 0x10#8) := by decide
theorem test_markerReserved4 : (after (step (State.reset.withFetchWord 8 0x20))).map
    (fun t => (t.rx.status, t.rx.marker)) = some (.noFrame, 0x20#8) := by decide
theorem test_markerReserved5 : (after (step (State.reset.withFetchWord 8 0x40))).map
    (fun t => (t.rx.status, t.rx.marker)) = some (.noFrame, 0x40#8) := by decide
theorem test_markerReserved6 : (after (step (State.reset.withFetchWord 8 0xFF))).map
    (fun t => (t.rx.status, t.rx.marker, t.rx.cause)) = some (.noFrame, 0xFF#8, .noFault) := by decide

/-- V-ENC-2. -/
theorem test_encode_V_ENC_2 :
    (after (exec (.encodeOp 1) (withPayload [0x04#8]))).map
      (fun t => (t.txfrm.cells, t.tx.flen, t.tx.crc, t.tx.status)) =
    some ([(0, 0x02#8), (1, 0x01#8), (2, 0x04#8), (3, 0x40#8), (4, 0x84#8), (5, 0x03#8)], 6, 0x4084#16, .ok) := by
  decide
/-- V-ENC-14. -/
theorem test_encode_V_ENC_14 :
    (after (exec (.encodeOp 65536) State.reset)).map (fun t => (t.tx.cause, t.tx.len, t.tx.pos, t.txfrm.cells)) =
      some (.tooLong, 65536, 0, []) := by decide +kernel
/-- V-DEC-16 in mode ignore. -/
theorem test_decodeIgnore_V_DEC_16 :
    (after (exec (.decodeIgnore 6) (withBuffer [0x02#8, 0x01#8, 0x04#8, 0x40#8, 0x85#8, 0x03#8]))).map
      (fun t => (t.rx.status, t.rx.consumed, t.rx.flags, t.rx.crc, t.rx.fcrc)) =
    some (.discard, 6, 0b1011#4, 0x4084#16, 0x4085#16) := by decide
/-- V-DEC-19 in mode ignore: the fault that ignore does not silence. -/
theorem test_decodeIgnore_V_DEC_19 :
    (after (exec (.decodeIgnore 6) (withBuffer [0x02#8, 0x01#8, 0x04#8, 0x40#8, 0x84#8, 0x02#8]))).map
      (fun t => (t.rx.status, t.rx.cause, t.rx.consumed, t.rx.flags)) =
    some (.fault, .invalidTerminator, 0, 0b0111#4) := by decide
/-- V-DEC-21 in mode raise: CRC and terminator both wrong. -/
theorem test_decodeRaise_V_DEC_21 :
    (after (exec (.decodeRaise 6) (withBuffer [0x02#8, 0x01#8, 0x04#8, 0x40#8, 0x85#8, 0x02#8]))).map
      (fun t => (t.rx.status, t.rx.cause, t.rx.consumed, t.rx.flags)) =
    some (.fault, .invalidCrc, 0, 0b0011#4) := by decide
/-- V-DEC-8 in mode raise: the high byte only. -/
theorem test_decodeRaise_V_DEC_8 :
    (after (exec (.decodeRaise 2) (withBuffer [0x03#8, 0x01#8]))).map
      (fun t => (t.rx.status, t.rx.payidx, t.rx.paylen, t.rx.pos)) = some (.noFrame, 3, 256, 2) := by decide

/-- 40_crc.md R71. -/
theorem test_crcClr :
    (after (exec (.crcClr .txf) { State.reset with tx := { TxRegs.reset with crc := 0x1234#16 } })).map
      (fun t => t.tx.crc) = some 0x0000#16 := by decide
/-- V-CRC-8. -/
theorem test_crcUpd_V_CRC_8 :
    (after (exec (.crcUpd .rxd 0x32#8) { State.reset with rx := { RxRegs.reset with crc := 0x2672#16 } })).map
      (fun t => t.rx.crc) = some 0x20B5#16 := by decide
/-- V-CRC-19. -/
theorem test_crc16_V_CRC_19 :
    (after (exec (.crc16 .txf [0x05#8, 0x00#8, 0x00#8, 0x27#8, 0x10#8]) State.reset)).map (fun t => t.tx.crc) =
      some 0xAE17#16 := by decide +kernel
/-- V-CRC-43: the bytes swapped. -/
theorem test_crcChk_V_CRC_43 :
    (after (exec .crcChk { State.reset with
      rx := { RxRegs.reset with crc := 0x4084#16, fcrc := 0x8440#16, flags := 0b1111#4 } })).map
      (fun t => t.rx.flags) = some 0b1011#4 := by decide

/-- 10_state.md R21. -/
theorem test_startTx : (after (exec (.startTx 1) State.reset)).map (fun t => (t.tx.phase, t.tx.status)) =
    some (.check, .busy) := by decide
/-- 10_state.md R21. -/
theorem test_startRx : (after (exec (.startRx 6 .raise) State.reset)).map
    (fun t => (t.rx.phase, t.rx.status, t.rx.mode, t.rx.n)) = some (.mark, .busy, .raise, 6) := by decide
/-- 60_exceptions.md R158: too long for RXBUF. -/
theorem test_startRx_too_long :
    (after (exec (.startRx 6 .raise) { State.reset with rxbuf := { cap := some 5, cells := [] } })).map
      (fun t => t.rx.phase) = some .idle := by decide
/-- 60_exceptions.md R155. -/
theorem test_poll : (after (exec (.poll .txf) (txAt .pay 1 2 0))).map (fun t => t.answer) = some (some 1) := by
  decide
/-- 10_state.md R17. -/
theorem test_read_status :
    (after (exec (.read (.reg .rxStatus)) { State.reset with rx := { RxRegs.reset with status := .discard } })).map
      (fun t => t.answer) = some (some 4) := by decide
/-- 60_exceptions.md R156: a byte of TXFRM. -/
theorem test_read_byte :
    (after (exec (.read (.txfrm 1)) { State.reset with txfrm := Memory.blank.writeBytes 0 [0x02#8, 0x09#8] })).map
      (fun t => t.answer) = some (some 9) := by decide
/-- 60_exceptions.md R157. -/
theorem test_writeTxpay : (after (exec (.writeTxpay 1 [0x07#8, 0x08#8]) (withPayload [0x05#8, 0x06#8]))).map
    (fun t => (t.txpay.cells, t.txDisturbed)) =
      some ([(0, 0x05#8), (1, 0x07#8), (2, 0x08#8)], false) := by decide
/-- 93_implementation_defined.md U4: written during the operation. -/
theorem test_writeRxbuf_busy : (after (exec (.writeRxbuf 2 [0x07#8]) (rxAt .pay 2 0))).map
    (fun t => (cellAt t.rxbuf.cells 2, t.rxDisturbed)) = some (some 0x07#8, true) := by decide

/-! ### Steps of the sequencers -/

/-- Trace 3.1, step 4. -/
theorem test_txf_pay : (after (step (txAt .pay 1 2 0))).map
    (fun t => (t.tx.phase, t.tx.pos, t.tx.cnt, t.tx.crc, cellAt t.txfrm.cells 2)) =
      some (.crch, 3, 1, 0x4084#16, some 0x04#8) := by decide
/-- Trace 3.2, step 4. -/
theorem test_rxd_pay : (after (step (rxAt .pay 2 0))).map
    (fun t => (t.rx.phase, t.rx.pos, t.rx.cnt, t.rx.crc, cellAt t.rxpay.cells 0)) =
      some (.crch, 3, 1, 0x4084#16, some 0x04#8) := by decide
/-- Trace 3.2, step 5. -/
theorem test_rxd_crch : (after (step (rxAt .crch 3 1))).map (fun t => (t.rx.phase, t.rx.pos, t.rx.fcrc)) =
    some (.crcl, 4, 0x4000#16) := by decide
/-- 70_reset_and_hazards.md R173: what has been written stays. -/
theorem test_reset_event :
    (after (step { rxAt .pay 2 0 with agenda := [.reset], rxpay := Memory.blank.writeBytes 0 [0x09#8] })).map
      (fun t => (t.rx, t.rxpay.cells)) = some (RxRegs.reset, [(0, 0x09#8)]) := by decide

/-! ### Witnesses: the hypotheses of the statements can be met -/

theorem witness_DecodeInvertsEncode :
    wellFormed (.markerReserved6 0x80#8) = true ∧ encode (.markerReserved6 0x80#8) = some (.marker 0x80#8) ∧
    wellFormed (.decodeRaise 7) = true ∧ encode (.decodeRaise 7) = some (.opsel 0b11#2) ∧
    (0b11#2 : BitVec 2) ≠ 0b01#2 := by decide

theorem witness_FrameDecodeInvertsEncode :
    Frame.wf { format := .short, payload := List.replicate 255 0x01#8, crc := 0, term := 0 } = true ∧
    Frame.wf { format := .long, payload := [], crc := 0x1234#16, term := 0x07#8 } = true := by
  refine ⟨?_, by decide⟩
  rw [Frame.wf, List.length_replicate]
  decide

theorem witness_DecodedFrameIsTheLeadingBytes :
    decodeFrame [0x02#8, 0x00#8, 0x00#8, 0x00#8, 0x03#8] =
      .ok { format := .short, payload := [], crc := 0x0000#16, term := 0x03#8 } := by decide

theorem witness_CrcUpdFoldsOneByte :
    loByte 0x4084#16 = loByte 0x0084#16 ∧ hiByte 0x4084#16 ^^^ 0x40#8 = hiByte 0x0084#16 ^^^ 0x00#8 := by decide

theorem witness_CrcLaws :
    [0x01#8, 0x02#8].length = [0x80#8, 0x55#8].length ∧ 1 < [0x01#8, 0x02#8].length ∧ 7 < 8 := by decide

theorem witness_EncodeFaultsOnLengthAlone :
    State.reset.tx.phase = .idle ∧ 65536 ≤ 65536 ∧
    1 ≤ [0x04#8].length ∧ [0x04#8].length ≤ 65535 ∧ (List.replicate 65536 0x00#8).length = 65536 := by
  refine ⟨rfl, Nat.le_refl _, by decide, by decide, List.length_replicate⟩

theorem witness_EncodeBuildsTheFrame :
    ([] : List Byte).length = 0 ∧ 65536 ≤ (List.replicate 65536 0x00#8).length ∧
    (1 ≤ (List.replicate 255 0x00#8).length ∧ (List.replicate 255 0x00#8).length < 256) ∧
    (256 ≤ (List.replicate 256 0x00#8).length ∧ (List.replicate 256 0x00#8).length < 65536) ∧
    encodePayload [0x04#8] = .frame [0x02#8, 0x01#8, 0x04#8, 0x40#8, 0x84#8, 0x03#8] := by
  refine ⟨rfl, ?_, ?_, ?_, by decide⟩ <;> simp only [List.length_replicate] <;> omega

theorem witness_EncodeRoundTrip : 1 ≤ [0x04#8].length ∧ [0x04#8].length < 65536 := by decide

theorem witness_EncodeCompletes :
    State.reset.tx.phase = .idle ∧ 1 ≤ 65535 ∧ 65535 < 65536 ∧ State.reset.txpay.fits 65535 = true ∧
    State.reset.txfrm.fits (frameSize (formatFor 65535) 65535) = true := by decide

theorem witness_FramerRefinesEncode :
    ∃ s : State, s.tx.phase = .idle ∧
      s.agenda = .host (.startTx 1) :: (List.replicate 8 (.unit .txf) ++ [.reset]) ∧ 1 + 7 ≤ 8 :=
  ⟨{ withPayload [0x04#8] with
      agenda := .host (.startTx 1) :: (List.replicate 8 (.unit .txf) ++ [.reset]) }, rfl, rfl, by decide⟩

/-- START.TX of `n` bytes and `k` steps of TXF, on unbounded buffers. -/
def framerRun (n k : Nat) : State :=
  { withPayload [0x04#8] with agenda := .host (.startTx n) :: (List.replicate k (.unit .txf) ++ []) }

theorem framerRun_starts (n k : Nat) :
    (framerRun n k).tx.phase = .idle ∧ txTooSmall n (framerRun n k) = none ∧
    (framerRun n k).agenda = .host (.startTx n) :: (List.replicate k (.unit .txf) ++ []) :=
  ⟨rfl, txTooSmall_unbounded n _ rfl rfl, rfl⟩

/-- One step more and one step less than the count, at each length where the count changes form. -/
theorem witness_FramerStepCount :
    (framerRun 1 7).tx.phase = .idle ∧ txTooSmall 1 (framerRun 1 7) = none ∧
    (∀ n k, (n, k) ∈ [(0, 0), (0, 1), (255, 260), (255, 261), (256, 262), (256, 263), (65535, 65541),
        (65535, 65542), (65536, 0), (65536, 1)] →
      (framerRun n k).tx.phase = .idle ∧ txTooSmall n (framerRun n k) = none ∧
      (framerRun n k).agenda = .host (.startTx n) :: (List.replicate k (.unit .txf) ++ [])) :=
  ⟨rfl, rfl, fun n k _ => framerRun_starts n k⟩

theorem witness_TxfCheckStep (n : Nat) :
    (txAt .check n 0 0).agenda = .unit .txf :: [] ∧ (txAt .check n 0 0).tx.phase = .check ∧
    TxInv (txAt .check n 0 0).tx ∧ (txAt .check n 0 0).tx.len = n :=
  ⟨rfl, rfl, ⟨⟨rfl, rfl, rfl⟩, rfl, rfl, rfl⟩, rfl⟩

theorem witness_TxfCheckStep_lengths : (0 = 0 ∧ 65536 ≤ 65536) ∧ 1 ≤ 65535 ∧ 65535 < 65536 := by decide

theorem witness_TxfHeaderSteps (p : TxPhase) (n : Nat) :
    (txAt p n 0 0).agenda = .unit .txf :: [] ∧ (txAt p n 0 0).txfrm.holds (txAt p n 0 0).tx.pos.toNat = true ∧
    (txAt p n 0 0).tx.phase = p ∧ (txAt p n 0 0).tx.len = n :=
  ⟨rfl, rfl, rfl, rfl⟩

theorem witness_TxfPayloadStep :
    (txAt .pay 1 2 0).agenda = .unit .txf :: [] ∧ (txAt .pay 1 2 0).tx.phase = .pay ∧
    (txAt .pay 1 2 0).txDisturbed = false ∧
    (txAt .pay 1 2 0).txpay.holds (txAt .pay 1 2 0).tx.cnt.toNat = true ∧
    (txAt .pay 1 2 0).txfrm.holds (txAt .pay 1 2 0).tx.pos.toNat = true := ⟨rfl, rfl, rfl, rfl, rfl⟩

theorem witness_TxfFooterSteps (p : TxPhase) :
    (txAt p 1 3 1).agenda = .unit .txf :: [] ∧ (txAt p 1 3 1).tx.phase = p ∧
    (txAt p 1 3 1).txfrm.holds (txAt p 1 3 1).tx.pos.toNat = true := ⟨rfl, rfl, rfl⟩

/-- Each clause of the decision table that speaks of a header: one byte short, complete with each of the
three verdicts (V-DEC-12, V-DEC-13, V-DEC-16, V-DEC-19), and a long header one byte short (V-DEC-31). -/
theorem witness_DecodeDecisionTable :
    ([0x04#8, 0x40#8, 0x84#8].length + 2 < (0x01#8).toNat + 5) ∧
    ([0x04#8, 0x40#8, 0x84#8].length + 3 < 256 * (0x00#8).toNat + (0x01#8).toNat + 6) ∧
    decodeHeader [0x02#8, 0x01#8, 0x04#8, 0x40#8, 0x84#8, 0x03#8] = .ok (.short, 1) ∧
    frameSize .short 1 ≤ [0x02#8, 0x01#8, 0x04#8, 0x40#8, 0x84#8, 0x03#8].length ∧
    crcOf [0x04#8] = joinBytes 0x40#8 0x84#8 ∧ crcOf [0x04#8] ≠ joinBytes 0x40#8 0x85#8 ∧
    (0x02#8 : Byte) ≠ 0x03#8 ∧ (0x04#8 : Byte) ≠ 0x02#8 := by decide

theorem witness_DecodeSensitivity :
    encodePayload [0x04#8] = .frame [0x02#8, 0x01#8, 0x04#8, 0x40#8, 0x84#8, 0x03#8] ∧
    (3 = 6 - 3 ∧ 4 = 6 - 2 ∧ 7 < 8 ∧ (0x02#8 : Byte) ≠ 0x03#8 ∧ 5 < 6) := by decide

theorem witness_DecodeFurtherProperties :
    decodeBuffer [0x02#8, 0x01#8, 0x04#8, 0x40#8, 0x84#8, 0x03#8] .raise = .accept [0x04#8] 6 ∧
    (0xFF#8 : Byte) ≠ 0x02#8 ∧ (0xFF#8 : Byte) ≠ 0x03#8 ∧
    260 ≤ ((0x02#8 :: List.replicate 259 0x00#8) ++ []).length ∧
    65541 ≤ ((0x03#8 :: List.replicate 65540 0x00#8) ++ []).length := by
  refine ⟨by decide, by decide, by decide, ?_, ?_⟩ <;>
    simp only [List.append_nil, List.length_cons, List.length_replicate] <;> omega

theorem witness_DecodeTakesOneFrame :
    decodeFrame [0x02#8, 0x00#8, 0x00#8, 0x00#8, 0x03#8] =
      .ok { format := .short, payload := [], crc := 0x0000#16, term := 0x03#8 } ∧
    encodePayload [0x04#8] = .frame [0x02#8, 0x01#8, 0x04#8, 0x40#8, 0x84#8, 0x03#8] ∧
    encodePayload [0x00#8] = .frame [0x02#8, 0x01#8, 0x00#8, 0x00#8, 0x00#8, 0x03#8] := by decide

theorem witness_DecodeAcceptsNonCanonical : (List.replicate 255 0x00#8).length < 256 := by
  simp only [List.length_replicate]; omega

/-- V-DEC-1, V-DEC-13, V-DEC-16 in both modes and V-DEC-19: each premise of the statement. -/
theorem witness_ConsumedIsZeroOrFrameSize :
    decodeBuffer [] .ignore = .noFrame ∧
    decodeBuffer [0x02#8, 0x01#8, 0x04#8, 0x40#8, 0x84#8, 0x03#8] .ignore = .accept [0x04#8] 6 ∧
    decodeBuffer [0x02#8, 0x01#8, 0x04#8, 0x40#8, 0x85#8, 0x03#8] .ignore = .discard 6 ∧
    decodeBuffer [0x02#8, 0x01#8, 0x04#8, 0x40#8, 0x85#8, 0x03#8] .raise = .fault .invalidCrc ∧
    decodeBuffer [0x02#8, 0x01#8, 0x04#8, 0x40#8, 0x84#8, 0x02#8] .ignore = .fault .invalidTerminator := by decide

/-- The buffer of `withBuffer` has no bound. -/
theorem withBuffer_fits (bytes : List Byte) (n : Nat) : (withBuffer bytes).rxbuf.fits n = true := by
  simp [withBuffer, Memory.fits, Memory.blank]

/-- A snapshot for each class, with every buffer unbounded. -/
theorem witness_DecodeCompletes (bytes : List Byte) (f : Frame) :
    (withBuffer bytes).rx.phase = .idle ∧ (withBuffer bytes).rxbuf.fits 6 = true ∧
    (withBuffer bytes).rxpay.fits f.payload.length = true := by
  exact ⟨rfl, withBuffer_fits bytes 6, rfl⟩

theorem witness_DecodeCompletes_classes :
    decodeFrame (bufferOperand 0 (withBuffer [])) = .error .empty ∧
    decodeFrame (bufferOperand 1 (withBuffer [0xFF#8])) = .error (.unknownMarker 0xFF#8) ∧
    decodeFrame (bufferOperand 1 (withBuffer [0x02#8])) = .error (.headerShort .short []) ∧
    decodeFrame (bufferOperand 2 (withBuffer [0x03#8, 0x01#8])) = .error (.headerShort .long [0x01#8]) ∧
    decodeFrame (bufferOperand 2 (withBuffer [0x02#8, 0x01#8])) = .error (.sizeShort .short 1) ∧
    decodeFrame (bufferOperand 5 (withBuffer [0x02#8, 0x00#8, 0x00#8, 0x01#8, 0x03#8])) =
      .ok { format := .short, payload := [], crc := 0x0001#16, term := 0x03#8 } := by decide

theorem witness_DeframerRefinesDecode :
    ∃ s : State, s.rx.phase = .idle ∧ s.rxbuf.fits 6 = true ∧ rxTooSmall 6 s = none ∧
      s.agenda = .host (.startRx 6 .raise) :: (List.replicate 8 (.unit .rxd) ++ [.reset]) ∧ 6 + 2 ≤ 8 :=
  ⟨{ withBuffer [0x02#8, 0x01#8, 0x04#8, 0x40#8, 0x84#8, 0x03#8] with
      agenda := .host (.startRx 6 .raise) :: (List.replicate 8 (.unit .rxd) ++ [.reset]) },
    rfl, rfl, rfl, rfl, by decide⟩

/-- START.RX of the bytes of a buffer and `k` steps of RXD, on unbounded buffers. -/
def deframerRun (bytes : List Byte) (k : Nat) (mode : ErrMode) : State :=
  { withBuffer bytes with
    agenda := .host (.startRx bytes.length mode) :: (List.replicate k (.unit .rxd) ++ []) }

/-- A snapshot for each class, with the steps that the statement counts. -/
theorem witness_DeframerStepCount :
    (∀ (bytes : List Byte) (k : Nat) (mode : ErrMode),
      (deframerRun bytes k mode).rx.phase = .idle ∧
      (deframerRun bytes k mode).rxbuf.fits bytes.length = true ∧
      rxTooSmall bytes.length (deframerRun bytes k mode) = none ∧
      (deframerRun bytes k mode).agenda =
        .host (.startRx bytes.length mode) :: (List.replicate k (.unit .rxd) ++ [])) ∧
    decodeFrame (bufferOperand 0 (deframerRun [] 1 .raise)) = .error .empty ∧
    decodeFrame (bufferOperand 1 (deframerRun [0xFF#8] 1 .raise)) = .error (.unknownMarker 0xFF#8) ∧
    decodeFrame (bufferOperand 2 (deframerRun [0x03#8, 0x01#8] 3 .raise)) =
      .error (.headerShort .long [0x01#8]) ∧
    decodeFrame (bufferOperand 2 (deframerRun [0x02#8, 0x01#8] 3 .raise)) = .error (.sizeShort .short 1) ∧
    decodeFrame (bufferOperand 5 (deframerRun [0x02#8, 0x00#8, 0x00#8, 0x00#8, 0x03#8] 7 .raise)) =
      .ok { format := .short, payload := [], crc := 0x0000#16, term := 0x03#8 } := by
  refine ⟨fun bytes k mode => ⟨rfl, ?_, rxTooSmall_unbounded _ _ rfl, rfl⟩, by decide⟩
  exact withBuffer_fits bytes bytes.length

theorem witness_RxdMarkStep (m : Byte) :
    ∃ s : State, s.agenda = .unit .rxd :: [] ∧ s.rx.phase = .mark ∧ s.rxDisturbed = false ∧ s.rx.pos = 0 ∧
      s.rxbuf.holds 0 = true ∧ s.rx.n ≠ 0 ∧ s.rxbuf.read .rxbuf 0 = m :=
  ⟨{ withBuffer [m] with rx := RxRegs.started 1 .ignore, agenda := [.unit .rxd] },
    rfl, rfl, rfl, rfl, rfl, Nat.one_ne_zero, rfl⟩

theorem witness_RxdMarkStep_empty :
    ∃ s : State, s.agenda = .unit .rxd :: [] ∧ s.rx.phase = .mark ∧ s.rxDisturbed = false ∧ s.rx.pos = 0 ∧
      s.rxbuf.holds 0 = true ∧ s.rx.n = 0 :=
  ⟨{ State.reset with rx := RxRegs.started 0 .ignore, agenda := [.unit .rxd] }, rfl, rfl, rfl, rfl, rfl, rfl⟩

theorem witness_RxdLengthSteps :
    ((rxAt .lenl 1 0).agenda = .unit .rxd :: [] ∧ (rxAt .lenl 1 0).rx.phase = .lenl ∧
      (rxAt .lenl 1 0).rx.pos.toNat < (rxAt .lenl 1 0).rx.n ∧ (rxAt .lenl 1 0).rxDisturbed = false ∧
      (rxAt .lenl 1 0).rxbuf.holds (rxAt .lenl 1 0).rx.pos.toNat = true) ∧
    ((rxAt .lenh 5 0).rx.phase = .lenh ∧ (rxAt .lenh 5 0).rx.pos.toNat < (rxAt .lenh 5 0).rx.n) ∧
    (rxAt .lenh 6 0).rx.n ≤ (rxAt .lenh 6 0).rx.pos.toNat := by decide

theorem witness_RxdSizeStep :
    (rxAt .size 2 0).agenda = .unit .rxd :: [] ∧ (rxAt .size 2 0).rx.phase = .size ∧
    (rxAt .size 2 0).rx.payidx = 2 ∧
    (rxAt .size 2 0).rx.payidx.toNat + (rxAt .size 2 0).rx.paylen.toNat + 3 = (rxAt .size 2 0).rx.n := by decide

/-- The same snapshot without its last byte. -/
theorem witness_RxdSizeStep_short :
    ∃ s : State, s.agenda = .unit .rxd :: [] ∧ s.rx.phase = .size ∧ s.rx.payidx = 2 ∧
      s.rx.n + 1 = s.rx.payidx.toNat + s.rx.paylen.toNat + 3 :=
  ⟨{ rxAt .size 2 0 with rx := { (rxAt .size 2 0).rx with n := 5 } }, rfl, rfl, rfl, rfl⟩

theorem witness_RxdPayloadStep :
    (rxAt .pay 2 0).agenda = .unit .rxd :: [] ∧ (rxAt .pay 2 0).rx.phase = .pay ∧
    (rxAt .pay 2 0).rxDisturbed = false ∧ (rxAt .pay 2 0).rxbuf.holds (rxAt .pay 2 0).rx.pos.toNat = true ∧
    (rxAt .pay 2 0).rxpay.holds (rxAt .pay 2 0).rx.cnt.toNat = true := by decide

theorem witness_RxdFooterSteps :
    (rxAt .crch 3 1).rxDisturbed = false ∧ (rxAt .crch 3 1).rxbuf.holds (rxAt .crch 3 1).rx.pos.toNat = true ∧
    RxInv (rxAt .crch 3 1).rx ∧ RxInv (rxAt .crcl 4 1).rx ∧ RxInv (rxAt .term 5 1).rx ∧
    (rxAt .term 5 1).agenda = .unit .rxd :: [] := by
  refine ⟨rfl, rfl, ?_, ?_, ?_, rfl⟩ <;>
    exact ⟨⟨⟨rfl, rfl, rfl⟩, Or.inl rfl, rfl, by decide, by decide⟩, rfl, rfl⟩

theorem witness_RxdCheckStep (crc fcrc : Half) (t : Byte) (m : ErrMode) :
    ∃ s : State, s.agenda = .unit .rxd :: [] ∧ s.rx.phase = .check ∧ s.rx.crc = crc ∧ s.rx.fcrc = fcrc ∧
      s.rx.term = t ∧ s.rx.mode = m :=
  ⟨{ State.reset with
      rx := { RxRegs.started 6 m with phase := .check, crc := crc, fcrc := fcrc, term := t }
      agenda := [.unit .rxd] }, rfl, rfl, rfl, rfl, rfl, rfl⟩

theorem witness_StartsInitialiseRegisters :
    State.reset.tx.phase = .idle ∧ txTooSmall 1 State.reset = none ∧ State.reset.rx.phase = .idle ∧
    State.reset.rxbuf.fits 6 = true ∧ rxTooSmall 6 State.reset = none := by decide

theorem witness_RefusedStartsHaveNoEffect :
    (txAt .pay 1 2 0).tx.phase ≠ .idle ∧ (rxAt .pay 2 0).rx.phase ≠ .idle ∧
    Memory.fits { cap := some 5, cells := [] } 6 = false := by decide

theorem witness_StartsThatDoNotFitAreRefused :
    Memory.fits { cap := some 0, cells := [] } 1 = false ∧ State.reset.txpay.fits 1 = true ∧
    Memory.fits { cap := some 5, cells := [] } (frameSize (formatFor 1) 1) = false ∧
    (∃ s : State, s.rx.phase = .idle ∧ s.rxbuf.fits 6 = true ∧
      decodeFrame (bufferOperand 6 s) =
        .ok { format := .short, payload := [0x04#8], crc := 0x4084#16, term := 0x03#8 } ∧
      s.rxpay.fits [0x04#8].length = false) :=
  ⟨rfl, rfl, rfl, { withBuffer [0x02#8, 0x01#8, 0x04#8, 0x40#8, 0x84#8, 0x03#8] with
    rxpay := { cap := some 0, cells := [] } }, rfl, rfl, by decide, rfl⟩

theorem witness_ReadAnswersWithoutEffect :
    State.reset.txfrm.holds 65540 = true ∧ State.reset.rxpay.holds 0 = true := ⟨rfl, rfl⟩

theorem witness_StatusAndCauseCodes :
    exec (.read (.reg .rxStatus)) State.reset = .next (answerHost 0 State.reset) ∧
    (answerHost 0 State.reset).answer = some 0 := ⟨rfl, rfl⟩

theorem witness_HostWritesStoreBytes :
    State.reset.txpay.fits (3 + [0x01#8].length) = true ∧ State.reset.rxbuf.fits (3 + [0x01#8].length) = true ∧
    State.reset.tx.phase = .idle ∧ (txAt .pay 1 2 0).tx.phase ≠ .idle ∧ [0x01#8] ≠ [] := by decide

theorem witness_DisturbedReadsAreFree :
    (∃ s : State, s.agenda = .unit .txf :: [] ∧ s.tx.phase = .pay ∧ s.txDisturbed = true ∧
      s.txpay.holds s.tx.cnt.toNat = true ∧ s.txfrm.holds s.tx.pos.toNat = true) ∧
    (∀ p ∈ [RxPhase.mark, .lenh, .lenl, .pay, .crch, .crcl, .term], ∃ s : State,
      s.agenda = .unit .rxd :: [] ∧ s.rx.phase = p ∧ s.rxDisturbed = true ∧
      s.rxbuf.holds s.rx.pos.toNat = true ∧ s.rxpay.holds s.rx.cnt.toNat = true ∧
      s.rx.n ≠ 0 ∧ s.rx.pos.toNat < s.rx.n) :=
  ⟨⟨{ txAt .pay 1 2 0 with txDisturbed := true }, rfl, rfl, rfl, rfl, rfl⟩,
    fun p _ => ⟨{ rxAt p 2 0 with rxDisturbed := true }, rfl, rfl, rfl, rfl, rfl,
      show (6 : Nat) ≠ 0 by decide, show 2 < 6 by decide⟩⟩

theorem witness_AccessesBeyondABufferFault :
    Memory.holds { cap := some 4, cells := [] } 4 = false ∧ Memory.holds { cap := some 4, cells := [] } 3 = true ∧
    4 < 4 + [0x01#8].length ∧ [0x01#8] ≠ [] := by decide

theorem witness_FaultsArePrecise :
    (∃ s t : State, txStep s = .next t ∧ s.tx.status ≠ .fault ∧ t.tx.status = .fault) ∧
    (∃ s t : State, rxStep exec s = .next t ∧ s.rx.status ≠ .fault ∧ t.rx.status = .fault) :=
  ⟨⟨txAt .check 0 0 0, _, rfl, by decide, rfl⟩,
    ⟨{ State.reset with rx := { RxRegs.started 6 .raise with phase := .check } }, _, rfl, by decide, rfl⟩⟩

theorem witness_ResetPutsRegistersAtReset :
    ∃ s : State, s.agenda = .reset :: [] ∧ s.rx.phase = .pay :=
  ⟨{ rxAt .pay 2 0 with agenda := [.reset] }, rfl, rfl⟩

theorem witness_IdleBlockWaits :
    ∃ s t : State, s.tx.phase = .idle ∧ s.rx.phase = .idle ∧ nextTurn s = .host (.writeTxpay 0 [0x04#8]) ∧
      (nextTurn s).rouses = false ∧ step s = .next t ∧ t ≠ s :=
  ⟨{ State.reset with agenda := [.host (.writeTxpay 0 [0x04#8])] }, _, rfl, rfl, rfl, rfl, rfl, by decide⟩

theorem witness_StepRunsTheInstruction :
    currentInstr { State.reset with agenda := [.host (.poll .txf)] } = some (.poll .txf) ∧
    currentInstr (State.reset.withFetchWord 8 0x02) = some .frameShort ∧
    (State.reset.withFetchWord 8 0x02).agenda = .unit .rxd :: [] ∧
    (State.reset.withFetchWord 8 0x02).rx.phase = .mark ∧ (State.reset.withFetchWord 8 0x02).rx.n ≠ 0 ∧
    (State.reset.withFetchWord 8 0x02).rxDisturbed = false ∧
    (State.reset.withFetchWord 8 0x02).rxbuf.holds 0 = true ∧
    decode [(State.reset.withFetchWord 8 0x02).rxbuf.read .rxbuf 0] = .ok .frameShort ∧
    (State.reset.withFetchWord 2 0b11).agenda = .op 0b11#2 0 :: [] := by decide

theorem witness_BusyUnitsRunOn :
    State.reset.agenda = [] ∧ State.reset.tx.phase = .idle ∧ State.reset.rx.phase = .idle ∧
    { txAt .pay 1 2 0 with agenda := [] }.tx.phase ≠ .idle ∧
    { rxAt .pay 2 0 with agenda := [] }.rx.phase ≠ .idle ∧ (rxAt .pay 2 0).tx.phase = .idle := by decide

theorem witness_UnitsKeepToTheirFootprint :
    (∃ t, txStep (txAt .pay 1 2 0) = .next t) ∧ (∃ t, rxStep exec (rxAt .pay 2 0) = .next t) :=
  ⟨⟨_, rfl⟩, ⟨_, rfl⟩⟩

theorem witness_UnitStepsCommute :
    ∃ s a b : State, txStep s = .next a ∧ rxStep exec s = .next b ∧ txBusy s = true ∧ rxBusy s = true :=
  ⟨{ txAt .pay 1 2 0 with rx := (rxAt .pay 2 0).rx, rxbuf := (rxAt .pay 2 0).rxbuf }, _, _, rfl, rfl, rfl, rfl⟩

theorem witness_OutcomesIgnoreHistory :
    (∃ s t a b : State, s ≠ t ∧ s.tx.phase = .idle ∧ t.tx.phase = .idle ∧
      (∀ i, i < 1 → s.txpay.read .txpay i = t.txpay.read .txpay i) ∧
      exec (.encodeOp 1) s = .next a ∧ exec (.encodeOp 1) t = .next b) ∧
    (∃ s t a b : State, s ≠ t ∧ s.rx.phase = .idle ∧ t.rx.phase = .idle ∧ s.rxbuf.fits 5 = true ∧
      t.rxbuf.fits 5 = true ∧ (∀ i, i < 5 → s.rxbuf.read .rxbuf i = t.rxbuf.read .rxbuf i) ∧
      exec (decodeInstr .raise 5) s = .next a ∧ exec (decodeInstr .raise 5) t = .next b) :=
  ⟨⟨withPayload [0x04#8], { withPayload [0x04#8] with tx := { TxRegs.reset with crc := 0x1234#16 } }, _, _,
      by decide, rfl, rfl, fun _ _ => rfl, rfl, rfl⟩,
    ⟨withBuffer [0x02#8, 0x00#8, 0x00#8, 0x00#8, 0x03#8],
      { withBuffer [0x02#8, 0x00#8, 0x00#8, 0x00#8, 0x03#8] with
        rx := { RxRegs.reset with crc := 0x1234#16, status := .fault, cause := .invalidCrc } }, _, _,
      by decide, rfl, rfl, rfl, rfl, fun _ _ => rfl, rfl, rfl⟩⟩

theorem witness_RepeatedOperationsAgree :
    (∃ s t : State, s.tx.phase = .idle ∧ exec (.encodeOp 1) s = .next t) ∧
    (∃ s t : State, s.rx.phase = .idle ∧ exec (decodeInstr .raise 0) s = .next t) ∧
    decodeBuffer [0x02#8, 0x00#8, 0x00#8, 0x00#8, 0x02#8] .ignore = .fault .invalidTerminator :=
  ⟨⟨withPayload [0x04#8], _, rfl, rfl⟩, ⟨State.reset, _, rfl, rfl⟩, by decide⟩

theorem witness_DefaultMachineNeverStops : Unbounded (txAt .pay 1 2 0) := ⟨rfl, rfl, rfl, rfl⟩

theorem witness_StepKeepsBuffersCanonical :
    BuffersCanonical (rxAt .pay 2 0) ∧ ∃ t, step (rxAt .pay 2 0) = .next t :=
  ⟨⟨rfl, rfl, rfl, rfl⟩, ⟨_, rfl⟩⟩

theorem witness_StepKeepsFramerInvariant :
    TxInv (txAt .pay 1 2 0).tx ∧ ∃ t, step (txAt .pay 1 2 0) = .next t :=
  ⟨⟨⟨⟨rfl, rfl, rfl⟩, by decide, by decide⟩, by decide, rfl⟩, ⟨_, rfl⟩⟩

theorem witness_StepKeepsDeframerInvariant :
    RxInv (rxAt .pay 2 0).rx ∧ ∃ t, step (rxAt .pay 2 0) = .next t :=
  ⟨⟨⟨⟨rfl, rfl, rfl⟩, Or.inl rfl, rfl, by decide, by decide⟩, by decide, rfl⟩, ⟨_, rfl⟩⟩

end Sys2Proof.Tests
end

/-! PROOFS, 10_state.md. What a start that is taken leaves, and that the outcome of an operation is a function
of its inputs (R10, R21). -/

namespace Sys2Proof.Machine

/-! ### The starts and the operations as a `startTxThen` or a `startRxThen` -/

theorem exec_startTx (n : Nat) (s : State) : exec (.startTx n) s = startTxThen n s id := rfl

theorem exec_startRx (n : Nat) (mode : ErrMode) (s : State) :
    exec (.startRx n mode) s = startRxThen n mode s id := rfl

theorem exec_encodeOp (n : Nat) (s : State) :
    exec (.encodeOp n) s = startTxThen n s (performEncode n) := rfl

theorem exec_decodeInstr (mode : ErrMode) (n : Nat) (s : State) :
    exec (decodeInstr mode n) s = startRxThen n mode s (performDecode n mode) := by
  cases mode <;> rfl

/-- An ENCODE that an idle TXF completes was performed from the state its start left. -/
theorem exec_encodeOp_next_of_idle {n : Nat} {s t : State} (hidle : s.tx.phase = .idle)
    (h : exec (.encodeOp n) s = .next t) : t = performEncode n (txStarted n s) := by
  rw [exec_encodeOp, startTxThen_next] at h
  obtain ⟨hbusy, -⟩ | ⟨-, -, ht⟩ := h
  · simp [txBusy, hidle] at hbusy
  · exact ht

/-- A DECODE of a snapshot that RXBUF holds, completed by an idle RXD, was performed from the state its
start left. -/
theorem exec_decodeInstr_next_of_idle {n : Nat} {mode : ErrMode} {s t : State} (hidle : s.rx.phase = .idle)
    (hfits : s.rxbuf.fits n = true) (h : exec (decodeInstr mode n) s = .next t) :
    t = performDecode n mode (rxStarted n mode s) := by
  rw [exec_decodeInstr, startRxThen_next] at h
  obtain ⟨hnot, -⟩ | ⟨-, -, ht⟩ := h
  · simp [rxTakes, rxBusy, hidle, hfits] at hnot
  · exact ht

/-! ### Bytes written and operands read -/

/-- What a buffer held before does not matter for a byte of a run written over it. -/
theorem Memory.read_writeBytes_zero (m : Memory) (sp : Space) {i : Nat} {bytes : List Byte}
    (h : i < bytes.length) : (m.writeBytes 0 bytes).read sp i = bytes[i] := by
  simpa using m.read_writeBytes_inside sp 0 i bytes bytes[i] (List.getElem?_eq_getElem h)

theorem payloadOperand_congr {n : Nat} {s t : State}
    (h : ∀ i, i < n → s.txpay.read .txpay i = t.txpay.read .txpay i) :
    payloadOperand n s = payloadOperand n t :=
  Memory.readBytes_congr _ _ _ 0 n (by simpa using h)

theorem bufferOperand_congr {n : Nat} {s t : State}
    (h : ∀ i, i < n → s.rxbuf.read .rxbuf i = t.rxbuf.read .rxbuf i) :
    bufferOperand n s = bufferOperand n t :=
  Memory.readBytes_congr _ _ _ 0 n (by simpa using h)

/-! ### The ends of the operations: registers from registers, buffers kept -/

theorem raiseFault_tx_congr (c : FaultCause) {s t : State} (h : s.tx = t.tx) :
    (raiseFault c s).tx = (raiseFault c t).tx := by
  cases c <;> simp [raiseFault, h]

theorem raiseFault_rx_congr (c : FaultCause) {s t : State} (h : s.rx = t.rx) :
    (raiseFault c s).rx = (raiseFault c t).rx := by
  cases c <;> simp [raiseFault, h]

@[simp] theorem raiseFault_rxpay (c : FaultCause) (s : State) : (raiseFault c s).rxpay = s.rxpay := by
  cases c <;> rfl

@[simp] theorem raiseFault_rx_paylen (c : FaultCause) (s : State) :
    (raiseFault c s).rx.paylen = s.rx.paylen := by
  cases c <;> rfl

theorem deliverOutcome_rx_congr (o : DecOutcome) {s t : State} (h : s.rx = t.rx) :
    (deliverOutcome o s).rx = (deliverOutcome o t).rx := by
  cases o with
  | noFrame => simp [deliverOutcome, h]
  | accept payload n => simp [deliverOutcome, h]
  | discard n => simp [deliverOutcome, h]
  | fault c => exact raiseFault_rx_congr c h

@[simp] theorem deliverOutcome_rxpay (o : DecOutcome) (s : State) :
    (deliverOutcome o s).rxpay = s.rxpay := by
  cases o <;> simp [deliverOutcome]

@[simp] theorem deliverOutcome_rx_paylen (o : DecOutcome) (s : State) :
    (deliverOutcome o s).rx.paylen = s.rx.paylen := by
  cases o <;> simp [deliverOutcome]

@[simp] theorem deliverOutcome_noFrame_status (s : State) :
    (deliverOutcome .noFrame s).rx.status = .noFrame := rfl

theorem deliverFrame_tx_congr (payload : List Byte) {s t : State} (h : s.tx = t.tx) :
    (deliverFrame payload s).tx = (deliverFrame payload t).tx := by
  simp [deliverFrame, h]

/-- The frame length on record counts no byte that was not written, even where TX_FLEN would wrap. -/
theorem deliverFrame_flen_le (payload : List Byte) (s : State) :
    (deliverFrame payload s).tx.flen.toNat ≤ (encodeFrame (frameFor payload)).length := by
  simpa [deliverFrame] using Nat.mod_le _ _

@[simp] theorem deliverFrame_txfrm (payload : List Byte) (s : State) :
    (deliverFrame payload s).txfrm = s.txfrm.writeBytes 0 (encodeFrame (frameFor payload)) := rfl

theorem frameRegs_paylen_le (f : Frame) (r : RxRegs) :
    (frameRegs f r).paylen.toNat ≤ f.payload.length := by
  simpa [frameRegs] using Nat.mod_le _ _

/-! ### The cases of ENCODE and DECODE -/

theorem performEncode_of_fault {n : Nat} {c : FaultCause} (h : encodeFault n = some c) (s : State) :
    performEncode n s = raiseFault c s := by
  simp [performEncode, h]

theorem performEncode_of_no_fault {n : Nat} (h : encodeFault n = none) (s : State) :
    performEncode n s = deliverFrame (payloadOperand n s) s := by
  simp [performEncode, h]

/-- ENCODE faults only with a cause that TXF records, and then delivers no length. -/
theorem raiseFault_flen_of_encodeFault {n : Nat} {c : FaultCause} (h : encodeFault n = some c) (s : State) :
    (raiseFault c s).tx.flen = 0 := by
  unfold encodeFault at h
  split at h
  · cases h; rfl
  · split at h <;> cases h; rfl

theorem performDecode_of_reject {n : Nat} {mode : ErrMode} {s : State} {e : FrameReject}
    (h : decodeFrame (bufferOperand n s) = .error e) :
    performDecode n mode s = deliverOutcome .noFrame { s with rx := rejectRegs e s.rx } := by
  simp [performDecode, h]

theorem performDecode_of_frame {n : Nat} {mode : ErrMode} {s : State} {f : Frame}
    (h : decodeFrame (bufferOperand n s) = .ok f) :
    performDecode n mode s = deliverOutcome (judge f mode)
      { s with rx := frameRegs f s.rx, rxpay := s.rxpay.writeBytes 0 f.payload } := by
  simp [performDecode, h]

/-! ### An operation depends on the registers its start left and on its operand only -/

theorem performEncode_tx_congr {n : Nat} {s t : State} (htx : s.tx = t.tx)
    (hpay : payloadOperand n s = payloadOperand n t) :
    (performEncode n s).tx = (performEncode n t).tx := by
  cases hf : encodeFault n with
  | some c =>
    rw [performEncode_of_fault hf, performEncode_of_fault hf]
    exact raiseFault_tx_congr c htx
  | none =>
    rw [performEncode_of_no_fault hf, performEncode_of_no_fault hf, hpay]
    exact deliverFrame_tx_congr _ htx

/-- The bytes of the frame on record: a fault records none, and a frame was written whole. -/
theorem performEncode_txfrm_congr {n : Nat} {s t : State} (hpay : payloadOperand n s = payloadOperand n t)
    {i : Nat} (hi : i < (performEncode n s).tx.flen.toNat) :
    (performEncode n s).txfrm.read .txfrm i = (performEncode n t).txfrm.read .txfrm i := by
  cases hf : encodeFault n with
  | some c =>
    rw [performEncode_of_fault hf, raiseFault_flen_of_encodeFault hf] at hi
    exact absurd hi (Nat.not_lt_zero i)
  | none =>
    rw [performEncode_of_no_fault hf] at hi ⊢
    have hlen : i < (encodeFrame (frameFor (payloadOperand n s))).length :=
      Nat.lt_of_lt_of_le hi (deliverFrame_flen_le _ s)
    rw [performEncode_of_no_fault hf, ← hpay, deliverFrame_txfrm, deliverFrame_txfrm,
      Memory.read_writeBytes_zero _ _ hlen, Memory.read_writeBytes_zero _ _ hlen]

theorem performDecode_rx_congr {n : Nat} (mode : ErrMode) {s t : State} (hrx : s.rx = t.rx)
    (hbuf : bufferOperand n s = bufferOperand n t) :
    (performDecode n mode s).rx = (performDecode n mode t).rx := by
  cases hs : decodeFrame (bufferOperand n s) with
  | error e =>
    rw [performDecode_of_reject hs, performDecode_of_reject (hbuf ▸ hs)]
    exact deliverOutcome_rx_congr _ (congrArg (rejectRegs e) hrx)
  | ok f =>
    rw [performDecode_of_frame hs, performDecode_of_frame (hbuf ▸ hs)]
    exact deliverOutcome_rx_congr _ (congrArg (frameRegs f) hrx)

/-- The bytes of an accepted payload: Accept needs a complete frame, whose payload was written whole. -/
theorem performDecode_rxpay_congr {n : Nat} {mode : ErrMode} {s t : State}
    (hbuf : bufferOperand n s = bufferOperand n t) (hacc : (performDecode n mode s).rx.status = .accept)
    {i : Nat} (hi : i < (performDecode n mode s).rx.paylen.toNat) :
    (performDecode n mode s).rxpay.read .rxpay i = (performDecode n mode t).rxpay.read .rxpay i := by
  cases hs : decodeFrame (bufferOperand n s) with
  | error e =>
    rw [performDecode_of_reject hs, deliverOutcome_noFrame_status] at hacc
    cases hacc
  | ok f =>
    rw [performDecode_of_frame hs] at hi ⊢
    rw [performDecode_of_frame (hbuf ▸ hs), deliverOutcome_rxpay, deliverOutcome_rxpay]
    rw [deliverOutcome_rx_paylen] at hi
    have hlen : i < f.payload.length := Nat.lt_of_lt_of_le hi (frameRegs_paylen_le f s.rx)
    rw [Memory.read_writeBytes_zero _ _ hlen, Memory.read_writeBytes_zero _ _ hlen]

/-! ### The statements -/

/-- Settles O54: a start sets every register of its unit from its inputs, and the operation behind it reads
only those registers and its operand. -/
theorem outcomesIgnoreHistory : Obligations.OutcomesIgnoreHistory := by
  unfold Obligations.OutcomesIgnoreHistory
  constructor
  · intro s t a b n hs ht hbytes ha hb
    have hpay : payloadOperand n (txStarted n s) = payloadOperand n (txStarted n t) :=
      payloadOperand_congr hbytes
    rw [exec_encodeOp_next_of_idle hs ha, exec_encodeOp_next_of_idle ht hb]
    exact ⟨performEncode_tx_congr rfl hpay, fun i hi => performEncode_txfrm_congr hpay hi⟩
  · intro s t a b n mode hs ht hsfits htfits hbytes ha hb
    have hbuf : bufferOperand n (rxStarted n mode s) = bufferOperand n (rxStarted n mode t) :=
      bufferOperand_congr hbytes
    rw [exec_decodeInstr_next_of_idle hs hsfits ha, exec_decodeInstr_next_of_idle ht htfits hb]
    exact ⟨performDecode_rx_congr mode rfl hbuf, fun hacc i hi => performDecode_rxpay_congr hbuf hacc hi⟩

/-- Settles O37: a start that is taken leaves `TxRegs.started` or `RxRegs.started` and a new snapshot. -/
theorem startsInitialiseRegisters : Obligations.StartsInitialiseRegisters := by
  unfold Obligations.StartsInitialiseRegisters
  constructor
  · intro s n hidle hroom
    rw [exec_startTx, startTxThen_taken hidle hroom]
    rfl
  · intro s n mode hidle hfits hroom
    rw [exec_startRx, startRxThen_taken hidle hfits hroom]
    rfl

end Sys2Proof.Machine

/-! PROOFS, 40_crc.md. The CRC engine: what one update does to an accumulator, the composite over a byte
sequence, and the comparison with a received field (R71, R72, R74, R76). -/

namespace Sys2Proof.Machine

/-! ### The parameters of the engine: no reflection, no final XOR -/

@[simp] theorem crcIn_eq_self (b : Byte) : crcIn b = b := rfl

@[simp] theorem crcOut_eq_self (c : Half) : crcOut c = c := BitVec.xor_zero

/-! ### The iterations of `crc_upd` -/

theorem crcShift_of_bit15_clear {c : Half} (h : c.getLsbD 15 = false) : crcShift c = c <<< 1 := by
  rw [crcShift, h, if_neg Bool.false_ne_true]

theorem crcShift_of_bit15_set {c : Half} (h : c.getLsbD 15 = true) :
    crcShift c = (c <<< 1) ^^^ 0x1021#16 := by
  rw [crcShift, h, if_pos rfl]
  rfl

theorem crcIterate_eq_iterate (n : Nat) (c : Half) : crcIterate n c = crcShift^[n] c := by
  induction n generalizing c with
  | zero => rfl
  | succ n ih => exact ih (crcShift c)

/-- The polynomial is odd, so bit 0 of an iteration's result says which branch it took. -/
theorem crcShift_getLsbD_zero (c : Half) : (crcShift c).getLsbD 0 = c.getLsbD 15 := by
  cases h : c.getLsbD 15
  · simp [crcShift_of_bit15_clear h]
  · simp [crcShift_of_bit15_set h]

/-- A shift by one loses bit 15 only. -/
theorem eq_of_shiftLeft_one_eq {c d : Half} (hshift : c <<< 1 = d <<< 1)
    (htop : c.getLsbD 15 = d.getLsbD 15) : c = d := by
  apply BitVec.eq_of_getLsbD_eq
  intro i hi
  obtain rfl | hlt : i = 15 ∨ i < 15 := by omega
  · exact htop
  · have hbit := congrArg (·.getLsbD (i + 1)) hshift
    simpa [show i + 1 < 16 by omega, hi] using hbit

theorem crcShift_injective : Function.Injective crcShift := by
  intro c d h
  have htop : c.getLsbD 15 = d.getLsbD 15 := by
    rw [← crcShift_getLsbD_zero, ← crcShift_getLsbD_zero, h]
  refine eq_of_shiftLeft_one_eq ?_ htop
  cases hd : d.getLsbD 15
  · rwa [crcShift_of_bit15_clear (htop.trans hd), crcShift_of_bit15_clear hd] at h
  · rwa [crcShift_of_bit15_set (htop.trans hd), crcShift_of_bit15_set hd, BitVec.xor_left_inj] at h

theorem crcIterate_injective (n : Nat) : Function.Injective (crcIterate n) := by
  rw [funext (crcIterate_eq_iterate n)]
  exact crcShift_injective.iterate n

/-- While only zeros reach bit 15, an iteration is a shift. -/
theorem crcIterate_eq_shiftLeft {n : Nat} {c : Half} (h : c.toNat * 2 ^ n < 2 ^ 16) :
    crcIterate n c = c <<< n := by
  induction n generalizing c with
  | zero => simp [crcIterate]
  | succ n ih =>
    have hlt : c.toNat * 2 * 2 ^ n < 2 ^ 16 := by rwa [Nat.mul_assoc, ← Nat.pow_succ']
    have hdouble : c.toNat * 2 < 2 ^ 16 := Nat.lt_of_le_of_lt (Nat.le_mul_of_pos_right _ n.two_pow_pos) hlt
    have htop : c.getLsbD 15 = false := by
      rw [← BitVec.msb_eq_getLsbD_last, BitVec.msb_eq_false_iff_two_mul_lt]
      omega
    have htoNat : (c <<< 1).toNat = c.toNat * 2 := by
      rw [BitVec.toNat_shiftLeft, Nat.shiftLeft_eq, pow_one, Nat.mod_eq_of_lt hdouble]
    calc crcIterate (n + 1) c
        = crcIterate n (c <<< 1) := congrArg (crcIterate n) (crcShift_of_bit15_clear htop)
      _ = c <<< 1 <<< n := ih (htoNat ▸ hlt)
      _ = c <<< (n + 1) := by rw [← BitVec.shiftLeft_add, Nat.add_comm]

/-! ### CRC.UPD as a function of two bytes -/

theorem zeroExtend_shiftLeft_eight (b : Byte) : b.zeroExtend 16 <<< 8 = joinBytes b 0x00#8 := by
  apply BitVec.eq_of_toNat_eq
  have hb := b.isLt
  rw [joinBytes_toNat, BitVec.toNat_shiftLeft, Nat.shiftLeft_eq, BitVec.toNat_setWidth, BitVec.toNat_ofNat]
  omega

theorem joinBytes_xor_joinBytes (a b x y : Byte) :
    joinBytes a b ^^^ joinBytes x y = joinBytes (a ^^^ x) (b ^^^ y) := BitVec.xor_append

/-- The byte meets the high half of the accumulator only. -/
theorem crcUpdate_eq_crcIterate_joinBytes (c : Half) (b : Byte) :
    crcUpdate c b = crcIterate 8 (joinBytes (hiByte c ^^^ b) (loByte c)) := by
  calc crcUpdate c b
      = crcIterate 8 (c ^^^ (b.zeroExtend 16 <<< 8)) := rfl
    _ = crcIterate 8 (joinBytes (hiByte c) (loByte c) ^^^ joinBytes b 0x00#8) := by
        rw [joinBytes_hiByte_loByte, zeroExtend_shiftLeft_eight]
    _ = crcIterate 8 (joinBytes (hiByte c ^^^ b) (loByte c)) := by
        rw [joinBytes_xor_joinBytes, BitVec.xor_zero]

theorem crcUpdate_injective (b : Byte) : Function.Injective (crcUpdate · b) := by
  intro c d h
  exact (BitVec.xor_left_inj _).mp (crcIterate_injective 8 h)

/-- A byte equal to the high half cancels it, and the low half moves up. -/
theorem crcUpdate_joinBytes_self (hi lo : Byte) : crcUpdate (joinBytes hi lo) hi = joinBytes lo 0x00#8 := by
  have hlow : joinBytes 0x00#8 lo = lo.zeroExtend 16 := by
    apply BitVec.eq_of_toNat_eq
    have hlo := lo.isLt
    rw [joinBytes_toNat, BitVec.toNat_setWidth, BitVec.toNat_ofNat]
    omega
  have hlt : (joinBytes 0x00#8 lo).toNat * 2 ^ 8 < 2 ^ 16 := by
    have hlo := lo.isLt
    rw [joinBytes_toNat, BitVec.toNat_ofNat]
    omega
  rw [crcUpdate_eq_crcIterate_joinBytes, hiByte_joinBytes, loByte_joinBytes, BitVec.xor_self,
    crcIterate_eq_shiftLeft hlt, hlow, zeroExtend_shiftLeft_eight]

@[simp] theorem crcUpdate_zero_zero : crcUpdate 0x0000#16 0x00#8 = 0x0000#16 := by decide

/-- The table of R73, row by row of sixteen entries. -/
theorem crcUpdate_zero_eq_specCrcTable_row (hi : Nat) (h : hi < 16) :
    ∀ lo : Fin 16, crcUpdate 0x0000#16 (BitVec.ofNat 8 (16 * hi + lo)) =
      specCrcTable.getD (16 * hi + lo) 0 := by
  interval_cases hi <;> decide

/-- The table of R73 holds what one update makes of a cleared accumulator. -/
theorem crcUpdate_zero_eq_specCrcTable (b : Byte) :
    crcUpdate 0x0000#16 b = specCrcTable.getD b.toNat 0 := by
  have hrow : b.toNat / 16 < 16 := by omega
  have hcol : b.toNat % 16 < 16 := Nat.mod_lt _ (by decide)
  have hentry := crcUpdate_zero_eq_specCrcTable_row _ hrow ⟨b.toNat % 16, hcol⟩
  simpa [Nat.div_add_mod] using hentry

/-! ### CRC16 over a sequence -/

theorem crcOf_eq_crcFold (s : List Byte) : crcOf s = crcFold 0x0000#16 s := crcOut_eq_self _

@[simp] theorem crcFold_nil (c : Half) : crcFold c [] = c := rfl

theorem crcFold_cons (c : Half) (b : Byte) (s : List Byte) :
    crcFold c (b :: s) = crcFold (crcUpdate c b) s := rfl

theorem crcFold_append (c : Half) (s t : List Byte) : crcFold c (s ++ t) = crcFold (crcFold c s) t :=
  List.foldl_append

theorem crcFold_zero_replicate_zero (n : Nat) :
    crcFold 0x0000#16 (List.replicate n 0x00#8) = 0x0000#16 := by
  induction n with
  | zero => rfl
  | succ n ih =>
    rw [List.replicate_succ, crcFold_cons, crcUpdate_zero_zero, ih]

/-- The check value of R3, one update after the other with the running values of R74. -/
theorem crcOf_check_string :
    crcOf [0x31#8, 0x32#8, 0x33#8, 0x34#8, 0x35#8, 0x36#8, 0x37#8, 0x38#8, 0x39#8] = 0x31C3#16 := by
  have h1 : crcUpdate 0x0000#16 0x31#8 = 0x2672#16 := by decide
  have h2 : crcUpdate 0x2672#16 0x32#8 = 0x20B5#16 := by decide
  have h3 : crcUpdate 0x20B5#16 0x33#8 = 0x9752#16 := by decide
  have h4 : crcUpdate 0x9752#16 0x34#8 = 0xD789#16 := by decide
  have h5 : crcUpdate 0xD789#16 0x35#8 = 0x546C#16 := by decide
  have h6 : crcUpdate 0x546C#16 0x36#8 = 0x20E4#16 := by decide
  have h7 : crcUpdate 0x20E4#16 0x37#8 = 0x86D6#16 := by decide
  have h8 : crcUpdate 0x86D6#16 0x38#8 = 0x9015#16 := by decide
  have h9 : crcUpdate 0x9015#16 0x39#8 = 0x31C3#16 := by decide
  simp only [crcOf_eq_crcFold, crcFold_cons, crcFold_nil, h1, h2, h3, h4, h5, h6, h7, h8, h9]

/-- The residue: two bytes fold an accumulator to zero exactly when they are its halves. -/
theorem crcFold_pair_eq_zero_iff (c : Half) (hi lo : Byte) :
    crcFold c [hi, lo] = 0x0000#16 ↔ c = joinBytes hi lo := by
  have hzero : crcFold (joinBytes hi lo) [hi, lo] = 0x0000#16 := by
    calc crcFold (joinBytes hi lo) [hi, lo]
        = crcUpdate (crcUpdate (joinBytes hi lo) hi) lo := rfl
      _ = joinBytes 0x00#8 0x00#8 := by rw [crcUpdate_joinBytes_self, crcUpdate_joinBytes_self]
      _ = 0x0000#16 := rfl
  constructor
  · intro h
    exact crcUpdate_injective hi (crcUpdate_injective lo (h.trans hzero.symm))
  · rintro rfl
    exact hzero

/-! ### The micro-operations -/

theorem exec_crcClr (u : CodecUnit) (s : State) : exec (.crcClr u) s = .next (setAcc u 0x0000#16 s) := rfl

theorem exec_crcUpd (u : CodecUnit) (b : Byte) (s : State) :
    exec (.crcUpd u b) s = .next (setAcc u (crcUpdate (accOf u s) b) s) := rfl

theorem exec_crc16 (u : CodecUnit) (bytes : List Byte) (s : State) :
    exec (.crc16 u bytes) s = .next (setAcc u (crcOf bytes) s) := by
  calc exec (.crc16 u bytes) s
      = .next (updateAccBytes u bytes (setAcc u 0x0000#16 s)) := rfl
    _ = .next (setAcc u (crcOf bytes) s) := by
        rw [updateAccBytes_eq_setAcc, accOf_setAcc, setAcc_setAcc, crcOf_eq_crcFold]

theorem exec_crcChk (s : State) : exec .crcChk s = .next (checkCrc s) := rfl

/-- CRC_OK is bit 2 of RX_FLAGS (10_state.md R20). -/
theorem setFlag_crcOkBit_crcMatches (f : BitVec 4) (computed received : Half) :
    setFlag f crcOkBit (crcMatches computed received) =
      if computed = received then f ||| 0b0100#4 else f &&& 0b1011#4 := by
  by_cases h : computed = received
  · simp [setFlag, crcMatches, crcOkBit, h]
  · simp [setFlag, crcMatches, crcOkBit, h]

/-! ### The statements -/

/-- Settles O6: the model's eight iterations are an iterated function, and the accumulator and the byte enter
it through `crcUpdate_eq_crcIterate_joinBytes`. -/
theorem crcUpdFoldsOneByte : Obligations.CrcUpdFoldsOneByte := by
  unfold Obligations.CrcUpdFoldsOneByte
  refine ⟨fun c b => crcIterate_eq_iterate 8 _, by decide, crcUpdate_zero_zero, ?_,
    fun b s => ⟨exec_crcUpd .txf b s, exec_crcUpd .rxd b s⟩⟩
  intro c d b e hlo hhi
  rw [crcUpdate_eq_crcIterate_joinBytes, crcUpdate_eq_crcIterate_joinBytes, hlo, hhi]

/-- Settles O8: CRC.CLR forgets the accumulator, and the updates after it fold the bytes from zero. -/
theorem crc16IsTheComposite : Obligations.Crc16IsTheComposite := by
  unfold Obligations.Crc16IsTheComposite
  refine ⟨fun bytes s => ⟨exec_crc16 .txf bytes s, exec_crc16 .rxd bytes s⟩, crcOf_eq_crcFold, rfl, ?_, ?_,
    by decide, crcOf_check_string⟩
  · intro n
    rw [crcOf_eq_crcFold, crcFold_zero_replicate_zero]
  · intro b
    rw [crcOf_eq_crcFold]
    exact crcUpdate_zero_eq_specCrcTable b

/-- Settles O9: CRC.CHK writes one bit, and the residue is zero for one accumulator only because an update
is injective in the accumulator. -/
theorem crcChkComparesAllBits : Obligations.CrcChkComparesAllBits := by
  unfold Obligations.CrcChkComparesAllBits
  constructor
  · intro s
    rw [exec_crcChk, checkCrc, setFlag_crcOkBit_crcMatches]
  · intro payload hi lo
    rw [crcOf_eq_crcFold, crcOf_eq_crcFold, crcFold_append, crcFold_pair_eq_zero_iff]

/-- Settles O5: CRC.CLR writes CRC_INIT without reading the accumulator. -/
theorem crcClrSetsInitialValue : Obligations.CrcClrSetsInitialValue := by
  unfold Obligations.CrcClrSetsInitialValue
  exact fun s => ⟨exec_crcClr .txf s, exec_crcClr .rxd s⟩

end Sys2Proof.Machine

/-! PROOFS, 41_framer.md. The frame that ENCODE builds (R91 to R93), and the steps of TXF that check the length,
emit the header and emit the footer (R98 to R101, R103, R104). -/

namespace Sys2Proof.Machine

/-! ### The length field (00_scope.md section 7; 30_encoding.md R53) -/

theorem lenHigh_eq_ofNat (n : Nat) : lenHigh n = BitVec.ofNat 8 (n / 256) := by
  apply BitVec.eq_of_toNat_eq
  rw [lenHigh, hiByte_toNat, BitVec.toNat_ofNat, BitVec.toNat_ofNat]
  omega

theorem lenLow_eq_ofNat (n : Nat) : lenLow n = BitVec.ofNat 8 n := by
  apply BitVec.eq_of_toNat_eq
  rw [lenLow, loByte_toNat, BitVec.toNat_ofNat, BitVec.toNat_ofNat]
  omega

theorem lenLow_eq_ofNat_mod (n : Nat) : lenLow n = BitVec.ofNat 8 (n % 256) := by
  apply BitVec.eq_of_toNat_eq
  rw [lenLow_eq_ofNat, BitVec.toNat_ofNat, BitVec.toNat_ofNat]
  omega

/-! ### The format and the fault that a length selects -/

theorem formatFor_of_lt {n : Nat} (h : n < 256) : formatFor n = .short := if_pos h

theorem formatFor_of_le {n : Nat} (h : 256 ≤ n) : formatFor n = .long := if_neg (Nat.not_lt.mpr h)

theorem frameSize_formatFor (n : Nat) :
    frameSize (formatFor n) n = if n < 256 then n + 5 else n + 6 := by
  by_cases h : n < 256
  · rw [formatFor_of_lt h, if_pos h, frameSize, Format.headerSize, Config.hdrSizeShort, Config.footerSize]
    omega
  · rw [formatFor_of_le (Nat.not_lt.mp h), if_neg h, frameSize, Format.headerSize, Config.hdrSizeLong,
      Config.footerSize]
    omega

theorem encodeFault_zero : encodeFault 0 = some .empty := rfl

theorem encodeFault_of_limit_le {n : Nat} (h : 65536 ≤ n) : encodeFault n = some .tooLong := by
  rw [encodeFault, if_neg (by omega)]
  exact if_pos h

theorem encodeFault_eq_none_iff (n : Nat) : encodeFault n = none ↔ 1 ≤ n ∧ n < 65536 := by
  obtain rfl | hpos := Nat.eq_zero_or_pos n
  · simp [encodeFault_zero]
  obtain hlim | hlim := Nat.lt_or_ge n 65536
  · rw [encodeFault, if_neg (by omega)]
    exact iff_of_true (if_neg (Nat.not_le.mpr hlim)) ⟨hpos, hlim⟩
  · rw [encodeFault_of_limit_le hlim]
    exact iff_of_false (by simp) (by omega)

/-! ### ENCODE as a function of the payload -/

theorem encodePayload_of_fault {p : List Byte} {c : FaultCause} (h : encodeFault p.length = some c) :
    encodePayload p = .fault c := by
  simp [encodePayload, h]

theorem encodePayload_eq_frame_iff (p f : List Byte) :
    encodePayload p = .frame f ↔ (1 ≤ p.length ∧ p.length < 65536) ∧ f = encodeFrame (frameFor p) := by
  rw [← encodeFault_eq_none_iff]
  cases hc : encodeFault p.length with
  | none => simp [encodePayload, hc, eq_comm (a := f)]
  | some c => simp [encodePayload_of_fault hc]

theorem encodeFrame_frameFor_of_lt {p : List Byte} (h : p.length < 256) :
    encodeFrame (frameFor p) =
      [0x02#8, lenLow p.length] ++ p ++ [hiByte (crcOf p), loByte (crcOf p), 0x03#8] := by
  rw [encodeFrame, frameFor, formatFor_of_lt h]
  rfl

theorem encodeFrame_frameFor_of_le {p : List Byte} (h : 256 ≤ p.length) :
    encodeFrame (frameFor p) =
      [0x03#8, lenHigh p.length, lenLow p.length] ++ p ++ [hiByte (crcOf p), loByte (crcOf p), 0x03#8] := by
  rw [encodeFrame, frameFor, formatFor_of_le h]
  rfl

theorem encodeFrame_frameFor_length (p : List Byte) :
    (encodeFrame (frameFor p)).length = if p.length < 256 then p.length + 5 else p.length + 6 :=
  (encodeFrame_length (frameFor p)).trans (frameSize_formatFor p.length)

/-! ### The step of TXF in each phase that reads no payload byte -/

/-- T_CHECK decides as ENCODE does (41_framer.md R91, R98). -/
theorem txStep_check {s : State} (hphase : s.tx.phase = .check) :
    txStep s = .next ((encodeFault s.tx.len).elim (txGoto .mark s) (raiseFault · s)) := by
  rw [txStep, hphase]
  dsimp only
  unfold txCheck encodeFault
  split_ifs <;> rfl

theorem txStep_mark_of_lt {s : State} (hphase : s.tx.phase = .mark) (hlen : s.tx.len < 256) :
    txStep s = emitThen 0x02#8 s (txGoto .lenl) := by
  rw [txStep, hphase]
  exact if_pos hlen

theorem txStep_mark_of_le {s : State} (hphase : s.tx.phase = .mark) (hlen : 256 ≤ s.tx.len) :
    txStep s = emitThen 0x03#8 s (txGoto .lenh) := by
  rw [txStep, hphase]
  exact if_neg (Nat.not_lt.mpr hlen)

theorem txStep_lenh {s : State} (hphase : s.tx.phase = .lenh) :
    txStep s = emitThen (BitVec.ofNat 8 (s.tx.len / 256)) s (txGoto .lenl) := by
  rw [txStep, hphase, ← lenHigh_eq_ofNat]
  rfl

theorem txStep_lenl {s : State} (hphase : s.tx.phase = .lenl) :
    txStep s = emitThen (BitVec.ofNat 8 s.tx.len) s (txGoto .pay) := by
  rw [txStep, hphase, ← lenLow_eq_ofNat]
  rfl

theorem txStep_crch {s : State} (hphase : s.tx.phase = .crch) :
    txStep s = emitThen (hiByte s.tx.crc) s (txGoto .crcl) := by
  rw [txStep, hphase]
  rfl

theorem txStep_crcl {s : State} (hphase : s.tx.phase = .crcl) :
    txStep s = emitThen (loByte s.tx.crc) s (txGoto .term) := by
  rw [txStep, hphase]
  rfl

theorem txStep_term {s : State} (hphase : s.tx.phase = .term) :
    txStep s = emitThen 0x03#8 s txDone := by
  rw [txStep, hphase]
  rfl

/-! ### A turn of TXF -/

theorem step_txf_turn {s : State} {rest : List Turn} (hturn : s.agenda = .unit .txf :: rest) :
    step s = txStep { s with agenda := rest } :=
  step_turn s (.unit .txf) rest hturn

theorem step_txf_check {s : State} {rest : List Turn} {fault : Option FaultCause}
    (hturn : s.agenda = .unit .txf :: rest) (hphase : s.tx.phase = .check)
    (hfault : encodeFault s.tx.len = fault) :
    step s = .next (fault.elim (txGoto .mark { s with agenda := rest })
      (raiseFault · { s with agenda := rest })) := by
  subst hfault
  rw [step_txf_turn hturn]
  exact txStep_check hphase

/-- A turn of TXF in a phase that emits one byte: it is in TXFRM at TX_POS, and `k` finishes the step
(41_framer.md R96). -/
theorem step_txf_emits {s : State} {rest : List Turn} {b : Byte} {k : State → State}
    (hturn : s.agenda = .unit .txf :: rest) (hroom : s.txfrm.holds s.tx.pos.toNat = true)
    (hemit : txStep { s with agenda := rest } = emitThen b { s with agenda := rest } k) :
    step s = .next (k { s with
      agenda := rest
      txfrm := s.txfrm.write s.tx.pos.toNat b
      tx := { s.tx with pos := s.tx.pos + 1 } }) := by
  rw [step_txf_turn hturn, hemit]
  exact emitThen_next.mpr ⟨hroom, rfl⟩

/-! ### A fault in T_CHECK -/

/-- In T_CHECK the invariant of TXF leaves the registers no freedom: they are as the start set them. -/
theorem eq_started_of_txInv_check {r : TxRegs} (hphase : r.phase = .check) (hinv : TxInv r) :
    r = TxRegs.started r.len := by
  obtain ⟨len, phase, pos, cnt, crc, status, cause, flen⟩ := r
  obtain rfl : phase = .check := hphase
  obtain ⟨⟨hstatus, hcause, hflen⟩, hpos, hcnt, hcrc⟩ := hinv
  simp_all [TxRegs.started]

theorem raiseTx_of_started {s : State} {n : Nat} (c : TxCause) (h : s.tx = TxRegs.started n) :
    raiseTx c s = { s with tx := { TxRegs.started n with status := .fault, cause := c, phase := .idle } } := by
  rw [raiseTx, h]
  rfl

/-! ### The statements -/

/-- Settles O12: below and from 256 on the frame is `encodeFrame_frameFor_of_lt` and `_of_le`, and its length
skips 261 because the header grows by one byte there. -/
theorem encodeBuildsTheFrame : Obligations.EncodeBuildsTheFrame := by
  unfold Obligations.EncodeBuildsTheFrame
  refine ⟨?empty, ?tooLong, ?short, ?long, by decide, ?size⟩
  case empty =>
    intro p hp
    exact encodePayload_of_fault (hp ▸ encodeFault_zero)
  case tooLong =>
    intro p hp
    exact encodePayload_of_fault (encodeFault_of_limit_le hp)
  case short =>
    intro p hpos hlt
    rw [encodePayload_eq_frame_iff, encodeFrame_frameFor_of_lt hlt, lenLow_eq_ofNat]
    exact ⟨⟨hpos, by omega⟩, rfl⟩
  case long =>
    intro p hle hlim
    rw [encodePayload_eq_frame_iff, encodeFrame_frameFor_of_le hle, lenHigh_eq_ofNat, lenLow_eq_ofNat_mod]
    exact ⟨⟨by omega, hlim⟩, rfl⟩
  case size =>
    intro p f hf
    obtain ⟨⟨hpos, hlim⟩, rfl⟩ := (encodePayload_eq_frame_iff p f).mp hf
    rw [encodeFrame_frameFor_length]
    refine ⟨rfl, ?_⟩
    split <;> omega

/-- Settles O17: T_CHECK decides as `encodeFault` does, and a fault is raised on the registers of a start. -/
theorem txfCheckStep : Obligations.TxfCheckStep := by
  unfold Obligations.TxfCheckStep
  intro s rest hturn hphase hinv
  have hregs : s.tx = TxRegs.started s.tx.len := eq_started_of_txInv_check hphase hinv
  refine ⟨fun hlen => ?_, fun hlen => ?_, fun hpos hlim => ?_⟩
  · rw [hlen] at hregs
    rw [step_txf_check hturn hphase (hlen ▸ encodeFault_zero)]
    exact congrArg _ (raiseTx_of_started .empty hregs)
  · rw [step_txf_check hturn hphase (encodeFault_of_limit_le hlen)]
    exact congrArg _ (raiseTx_of_started .tooLong hregs)
  · exact step_txf_check hturn hphase ((encodeFault_eq_none_iff _).mpr ⟨hpos, hlim⟩)

/-- Settles O18: each header phase is one `emit` followed by a change of phase. -/
theorem txfHeaderSteps : Obligations.TxfHeaderSteps := by
  unfold Obligations.TxfHeaderSteps
  intro s rest hturn hroom
  refine ⟨fun hmark hlt => ?_, fun hmark hle => ?_, fun hlenh => ?_, fun hlenl => ?_⟩
  · exact step_txf_emits hturn hroom (txStep_mark_of_lt hmark hlt)
  · exact step_txf_emits hturn hroom (txStep_mark_of_le hmark hle)
  · exact step_txf_emits hturn hroom (txStep_lenh hlenh)
  · exact step_txf_emits hturn hroom (txStep_lenl hlenl)

/-- Settles O20: each footer phase is one `emit`; T_TERM's `txDone` reads the position after it. -/
theorem txfFooterSteps : Obligations.TxfFooterSteps := by
  unfold Obligations.TxfFooterSteps
  intro s rest hturn hroom
  refine ⟨fun hcrch => ?_, fun hcrcl => ?_, fun hterm => ?_⟩
  · exact step_txf_emits hturn hroom (txStep_crch hcrch)
  · exact step_txf_emits hturn hroom (txStep_crcl hcrcl)
  · exact step_txf_emits hturn hroom (txStep_term hterm)

end Sys2Proof.Machine

/-! PROOFS, 42_deframer.md. What DECODE answers (R112, R119, R134, R136), and the steps of RXD that dispatch the
marker, size the frame, read the footer and judge it (R122, R125, R127 to R130). -/

namespace Sys2Proof.Machine

/-! ### The header of a buffer (42_deframer.md R112, steps 1 and 2) -/

theorem decodeHeader_short (l : Byte) (r : List Byte) :
    decodeHeader (0x02#8 :: l :: r) = .ok (.short, l.toNat) := rfl

theorem decodeHeader_long (h l : Byte) (r : List Byte) :
    decodeHeader (0x03#8 :: h :: l :: r) = .ok (.long, 256 * h.toNat + l.toNat) := by
  rw [← joinBytes_toNat]
  rfl

theorem formatOf_eq_none {m : Byte} (hshort : m ≠ 0x02#8) (hlong : m ≠ 0x03#8) : formatOf m = none :=
  (if_neg hshort).trans (if_neg hlong)

theorem decodeHeader_of_no_format {m : Byte} (h : formatOf m = none) (r : List Byte) :
    decodeHeader (m :: r) = .error (.unknownMarker m) := by
  simp [decodeHeader, h]

/-- A header that is read stands in the first two or three bytes. -/
theorem decodeHeader_ok_cases {b : List Byte} {fmt : Format} {len : Nat} (h : decodeHeader b = .ok (fmt, len)) :
    (∃ l r, b = 0x02#8 :: l :: r ∧ fmt = .short ∧ len = l.toNat) ∨
    (∃ hi l r, b = 0x03#8 :: hi :: l :: r ∧ fmt = .long ∧ len = 256 * hi.toNat + l.toNat) := by
  cases b with
  | nil => cases h
  | cons m r =>
    cases hm : formatOf m with
    | none =>
      rw [decodeHeader_of_no_format hm] at h
      cases h
    | some f =>
      obtain rfl := (formatOf_eq_some_iff m f).mp hm
      match f, r, h with
      | .short, l :: r, h => cases h; exact .inl ⟨l, r, rfl, rfl, rfl⟩
      | .long, hi :: l :: r, h => cases h; exact .inr ⟨hi, l, r, rfl, rfl, joinBytes_toNat hi l⟩

/-- Bytes behind a header that is read do not change it. -/
theorem decodeHeader_append {b : List Byte} {fmt : Format} {len : Nat} (h : decodeHeader b = .ok (fmt, len))
    (x : List Byte) : decodeHeader (b ++ x) = .ok (fmt, len) := by
  obtain ⟨l, r, rfl, rfl, rfl⟩ | ⟨hi, l, r, rfl, rfl, rfl⟩ := decodeHeader_ok_cases h
  · exact decodeHeader_short l (r ++ x)
  · exact decodeHeader_long hi l (r ++ x)

/-! ### The frame of a buffer (42_deframer.md R112, steps 3 and 4) -/

/-- The frame that a buffer holds at index 0 when its header says this format and this length. -/
def frameAt (b : List Byte) (fmt : Format) (len : Nat) : Frame :=
  { format := fmt
    payload := slice b fmt.headerSize len
    crc := joinBytes (b.getD (fmt.headerSize + len) 0) (b.getD (fmt.headerSize + len + 1) 0)
    term := b.getD (fmt.headerSize + len + 2) 0 }

theorem decodeFrame_of_header_error {b : List Byte} {e : FrameReject} (h : decodeHeader b = .error e) :
    decodeFrame b = .error e := by
  simp [decodeFrame, h]

theorem decodeFrame_of_incomplete {b : List Byte} {fmt : Format} {len : Nat}
    (h : decodeHeader b = .ok (fmt, len)) (hlt : b.length < frameSize fmt len) :
    decodeFrame b = .error (.sizeShort fmt len) := by
  simp [decodeFrame, h, hlt]

theorem decodeFrame_of_complete {b : List Byte} {fmt : Format} {len : Nat}
    (h : decodeHeader b = .ok (fmt, len)) (hle : frameSize fmt len ≤ b.length) :
    decodeFrame b = .ok (frameAt b fmt len) := by
  simp [decodeFrame, h, Nat.not_lt.mpr hle, frameAt]

/-- A frame that is read is the one its header announces, and all of it is there. -/
theorem decodeFrame_ok_cases {b : List Byte} {f : Frame} (h : decodeFrame b = .ok f) :
    ∃ fmt len, decodeHeader b = .ok (fmt, len) ∧ frameSize fmt len ≤ b.length ∧ f = frameAt b fmt len := by
  cases hh : decodeHeader b with
  | error e =>
    rw [decodeFrame_of_header_error hh] at h
    cases h
  | ok r =>
    obtain ⟨fmt, len⟩ := r
    obtain hlt | hle := Nat.lt_or_ge b.length (frameSize fmt len)
    · rw [decodeFrame_of_incomplete hh hlt] at h
      cases h
    · rw [decodeFrame_of_complete hh hle] at h
      cases h
      exact ⟨fmt, len, rfl, hle, rfl⟩

theorem frameTotal_frameAt {b : List Byte} {fmt : Format} {len : Nat} (hle : frameSize fmt len ≤ b.length) :
    frameTotal (frameAt b fmt len) = frameSize fmt len := by
  have hlen : (slice b fmt.headerSize len).length = len := by
    rw [frameSize] at hle
    rw [slice, List.length_take, List.length_drop]
    omega
  exact congrArg (frameSize fmt) hlen

theorem frameTotal_le_length {b : List Byte} {f : Frame} (h : decodeFrame b = .ok f) :
    frameTotal f ≤ b.length := by
  obtain ⟨fmt, len, -, hle, rfl⟩ := decodeFrame_ok_cases h
  rwa [frameTotal_frameAt hle]

/-- The smallest frame is the empty short one (42_deframer.md R118). -/
theorem five_le_frameTotal (f : Frame) : 5 ≤ frameTotal f := by
  cases hf : f.format <;>
    simp only [frameTotal, frameSize, hf, Format.headerSize, Config.hdrSizeShort, Config.hdrSizeLong,
      Config.footerSize] <;> omega

/-! ### A frame on the wire is read back -/

theorem decodeHeader_headerBytes {fmt : Format} {len : Nat} (h : len ≤ fmt.maxLen) (x : List Byte) :
    decodeHeader (headerBytes fmt len ++ x) = .ok (fmt, len) := by
  cases fmt with
  | short =>
    have hlen : (loByte (BitVec.ofNat 16 len)).toNat = len := by
      simp only [Format.maxLen, Config.shortLimit] at h
      rw [loByte_toNat, BitVec.toNat_ofNat]
      omega
    exact (decodeHeader_short _ x).trans (by rw [hlen])
  | long =>
    have hlen : 256 * (hiByte (BitVec.ofNat 16 len)).toNat + (loByte (BitVec.ofNat 16 len)).toNat = len := by
      simp only [Format.maxLen, Config.maxPayload] at h
      rw [← joinBytes_toNat, joinBytes_hiByte_loByte, BitVec.toNat_ofNat]
      omega
    exact (decodeHeader_long _ _ x).trans (by rw [hlen])

theorem decodeHeader_encodeFrame_append {f : Frame} (h : f.wf = true) (x : List Byte) :
    decodeHeader (encodeFrame f ++ x) = .ok (f.format, f.payload.length) := by
  rw [encodeFrame, List.append_assoc, List.append_assoc]
  exact decodeHeader_headerBytes (of_decide_eq_true h) _

theorem frameAt_encodeFrame_append (f : Frame) (x : List Byte) :
    frameAt (encodeFrame f ++ x) f.format f.payload.length = f := by
  have hfoot (k : Nat) : (encodeFrame f ++ x).getD (f.format.headerSize + f.payload.length + k) 0 =
      ([hiByte f.crc, loByte f.crc, f.term] ++ x).getD k 0 := by
    rw [encodeFrame, List.append_assoc, List.getD_append_right _ _ _ _ (by simp)]
    simp
  have hpayload : slice (encodeFrame f ++ x) f.format.headerSize f.payload.length = f.payload := by
    rw [slice, encodeFrame, List.append_assoc, List.append_assoc,
      List.drop_left' (headerBytes_length _ _), List.take_left]
  have hcrc := (congrArg₂ joinBytes (hfoot 0) (hfoot 1)).trans (joinBytes_hiByte_loByte f.crc)
  rw [frameAt, hpayload]
  exact congrArg₂ (Frame.mk f.format f.payload) hcrc (hfoot 2)

/-- The bytes behind a frame are not looked at (42_deframer.md R114). -/
theorem decodeFrame_encodeFrame_append {f : Frame} (h : f.wf = true) (x : List Byte) :
    decodeFrame (encodeFrame f ++ x) = .ok f := by
  have hle : frameSize f.format f.payload.length ≤ (encodeFrame f ++ x).length := by
    rw [List.length_append, encodeFrame_length]
    exact Nat.le_add_right _ _
  rw [decodeFrame_of_complete (decodeHeader_encodeFrame_append h x) hle, frameAt_encodeFrame_append]

/-! ### The verdict on a complete frame (42_deframer.md R112, steps 5 to 7) -/

theorem crcMatches_iff {c d : Half} : crcMatches c d = true ↔ c = d := beq_iff_eq

theorem termMatches_iff {t : Byte} : termMatches t = true ↔ t = 0x03#8 := beq_iff_eq

theorem judge_ignore_of_crc_ne {f : Frame} (h : crcOf f.payload ≠ f.crc) :
    judge f .ignore = .discard (frameTotal f) := if_neg (mt crcMatches_iff.mp h)

theorem judge_raise_of_crc_ne {f : Frame} (h : crcOf f.payload ≠ f.crc) :
    judge f .raise = .fault .invalidCrc := if_neg (mt crcMatches_iff.mp h)

theorem judge_of_term_ne {f : Frame} (hcrc : crcOf f.payload = f.crc) (hterm : f.term ≠ 0x03#8)
    (mode : ErrMode) : judge f mode = .fault .invalidTerminator :=
  (if_pos (crcMatches_iff.mpr hcrc)).trans (if_neg (mt termMatches_iff.mp hterm))

theorem judge_of_valid {f : Frame} (hcrc : crcOf f.payload = f.crc) (hterm : f.term = 0x03#8)
    (mode : ErrMode) : judge f mode = .accept f.payload (frameTotal f) :=
  (if_pos (crcMatches_iff.mpr hcrc)).trans (if_pos (termMatches_iff.mpr hterm))

theorem judge_cases (f : Frame) (mode : ErrMode) :
    judge f mode = .accept f.payload (frameTotal f) ∨ judge f mode = .discard (frameTotal f) ∨
      ∃ c, judge f mode = .fault c := by
  by_cases hcrc : crcOf f.payload = f.crc
  · by_cases hterm : f.term = 0x03#8
    · exact .inl (judge_of_valid hcrc hterm mode)
    · exact .inr (.inr ⟨_, judge_of_term_ne hcrc hterm mode⟩)
  · cases mode with
    | ignore => exact .inr (.inl (judge_ignore_of_crc_ne hcrc))
    | raise => exact .inr (.inr ⟨_, judge_raise_of_crc_ne hcrc⟩)

/-! ### DECODE as a function of the buffer -/

theorem decodeBuffer_of_reject {b : List Byte} {e : FrameReject} (h : decodeFrame b = .error e)
    (mode : ErrMode) : decodeBuffer b mode = .noFrame := by
  simp [decodeBuffer, h]

theorem decodeBuffer_of_frame {b : List Byte} {f : Frame} (h : decodeFrame b = .ok f) (mode : ErrMode) :
    decodeBuffer b mode = judge f mode := by
  simp [decodeBuffer, h]

theorem decodeBuffer_of_header_error {b : List Byte} {e : FrameReject} (h : decodeHeader b = .error e)
    (mode : ErrMode) : decodeBuffer b mode = .noFrame :=
  decodeBuffer_of_reject (decodeFrame_of_header_error h) mode

theorem decodeBuffer_of_incomplete {b : List Byte} {fmt : Format} {len : Nat}
    (h : decodeHeader b = .ok (fmt, len)) (hlt : b.length < frameSize fmt len) (mode : ErrMode) :
    decodeBuffer b mode = .noFrame :=
  decodeBuffer_of_reject (decodeFrame_of_incomplete h hlt) mode

theorem decodeBuffer_encodeFrame {f : Frame} (h : f.wf = true) (mode : ErrMode) :
    decodeBuffer (encodeFrame f) mode = judge f mode :=
  decodeBuffer_of_frame (List.append_nil (encodeFrame f) ▸ decodeFrame_encodeFrame_append h []) mode

/-- Without a complete frame there is nothing to consume; with one, the verdict consumes all of it or none. -/
theorem decodeBuffer_cases (b : List Byte) (mode : ErrMode) :
    decodeBuffer b mode = .noFrame ∨ (∃ c, decodeBuffer b mode = .fault c) ∨
      ∃ f, decodeFrame b = .ok f ∧
        (decodeBuffer b mode = .accept f.payload (frameTotal f) ∨ decodeBuffer b mode = .discard (frameTotal f)) := by
  cases hf : decodeFrame b with
  | error e => exact .inl (decodeBuffer_of_reject hf mode)
  | ok f =>
    rw [decodeBuffer_of_frame hf]
    obtain haccept | hdiscard | hfault := judge_cases f mode
    · exact .inr (.inr ⟨f, rfl, .inl haccept⟩)
    · exact .inr (.inr ⟨f, rfl, .inr hdiscard⟩)
    · exact .inr (.inl hfault)

/-- A strict initial part of a frame is no frame: a header in it is the frame's own, which announces more. -/
theorem decodeBuffer_take_encodeFrame {f : Frame} (h : f.wf = true) {n : Nat} (hn : n < (encodeFrame f).length)
    (mode : ErrMode) : decodeBuffer ((encodeFrame f).take n) mode = .noFrame := by
  cases hh : decodeHeader ((encodeFrame f).take n) with
  | error e => exact decodeBuffer_of_header_error hh mode
  | ok r =>
    have hwhole : decodeHeader (encodeFrame f ++ []) = .ok r := by
      simpa using decodeHeader_append (fmt := r.1) (len := r.2) hh ((encodeFrame f).drop n)
    obtain rfl : (f.format, f.payload.length) = r :=
      Except.ok.inj ((decodeHeader_encodeFrame_append h []).symm.trans hwhole)
    refine decodeBuffer_of_incomplete hh ?_ mode
    rw [← encodeFrame_length, List.length_take]
    omega

/-! ### One byte of the footer replaced -/

/-- The footer is the last three bytes of a frame. -/
theorem encodeFrame_footer_index (f : Frame) {k : Nat} (hk : k < 3) :
    (encodeFrame f).length - (3 - k) = (headerBytes f.format f.payload.length ++ f.payload).length + k := by
  have hlen : (encodeFrame f).length = (headerBytes f.format f.payload.length ++ f.payload).length + 3 :=
    List.length_append
  omega

theorem encodeFrame_getD_footer (f : Frame) {k : Nat} (hk : k < 3) :
    (encodeFrame f).getD ((encodeFrame f).length - (3 - k)) 0 =
      [hiByte f.crc, loByte f.crc, f.term].getD k 0 := by
  rw [encodeFrame_footer_index f hk, encodeFrame, List.getD_append_right _ _ _ _ (Nat.le_add_right _ _),
    Nat.add_sub_cancel_left]

theorem encodeFrame_set_footer (f : Frame) {k : Nat} (hk : k < 3) (b : Byte) :
    (encodeFrame f).set ((encodeFrame f).length - (3 - k)) b =
      headerBytes f.format f.payload.length ++ f.payload ++ [hiByte f.crc, loByte f.crc, f.term].set k b := by
  rw [encodeFrame_footer_index f hk, encodeFrame, List.set_append_right _ _ (Nat.le_add_right _ _),
    Nat.add_sub_cancel_left]

theorem encodeFrame_set_crcHigh (f : Frame) (b : Byte) :
    (encodeFrame f).set ((encodeFrame f).length - 3) b = encodeFrame { f with crc := withHigh f.crc b } := by
  rw [encodeFrame_set_footer f (k := 0) (by decide), encodeFrame, withHigh, hiByte_joinBytes, loByte_joinBytes]
  rfl

theorem encodeFrame_set_crcLow (f : Frame) (b : Byte) :
    (encodeFrame f).set ((encodeFrame f).length - 2) b = encodeFrame { f with crc := withLow f.crc b } := by
  rw [encodeFrame_set_footer f (k := 1) (by decide), encodeFrame, withLow, hiByte_joinBytes, loByte_joinBytes]
  rfl

theorem encodeFrame_set_term (f : Frame) (b : Byte) :
    (encodeFrame f).set ((encodeFrame f).length - 1) b = encodeFrame { f with term := b } :=
  encodeFrame_set_footer f (k := 2) (by decide) b

theorem xor_bit_ne_self (b : Byte) {k : Nat} (hk : k < 8) : b ^^^ (1#8 <<< k) ≠ b := by
  have hbit : ∀ k : Fin 8, 1#8 <<< k.val ≠ 0#8 := by decide
  intro h
  exact hbit ⟨k, hk⟩ ((BitVec.xor_right_inj b).mp (h.trans BitVec.xor_zero.symm))

/-- A flipped bit of the CRC field is another CRC field. -/
theorem encodeFrame_flip_crc_bit (f : Frame) {i k : Nat}
    (hi : i = (encodeFrame f).length - 3 ∨ i = (encodeFrame f).length - 2) (hk : k < 8) :
    ∃ c, c ≠ f.crc ∧
      (encodeFrame f).set i ((encodeFrame f).getD i 0 ^^^ (1#8 <<< k)) = encodeFrame { f with crc := c } := by
  obtain rfl | rfl := hi
  · refine ⟨_, fun hc => ?_, encodeFrame_set_crcHigh f _⟩
    have hbyte := congrArg hiByte hc
    rw [withHigh, hiByte_joinBytes, encodeFrame_getD_footer f (k := 0) (by decide)] at hbyte
    exact xor_bit_ne_self _ hk hbyte
  · refine ⟨_, fun hc => ?_, encodeFrame_set_crcLow f _⟩
    have hbyte := congrArg loByte hc
    rw [withLow, loByte_joinBytes, encodeFrame_getD_footer f (k := 1) (by decide)] at hbyte
    exact xor_bit_ne_self _ hk hbyte

/-! ### The frames of ENCODE -/

theorem frameFor_wf {p : List Byte} (h : p.length < 65536) : (frameFor p).wf = true := by
  refine decide_eq_true (show p.length ≤ (formatFor p.length).maxLen from ?_)
  obtain hlt | hle := Nat.lt_or_ge p.length 256
  · rw [formatFor_of_lt hlt]
    exact Nat.le_sub_one_of_lt hlt
  · rw [formatFor_of_le hle]
    exact Nat.le_of_lt_succ h

theorem frameTotal_frameFor (p : List Byte) : frameTotal (frameFor p) = (encodeFrame (frameFor p)).length :=
  (encodeFrame_length _).symm

/-! ### A turn of RXD, and the fetch of an undisturbed operation -/

theorem step_rxd_turn {s : State} {rest : List Turn} (hturn : s.agenda = .unit .rxd :: rest) :
    step s = rxStep exec { s with agenda := rest } :=
  step_turn s (.unit .rxd) rest hturn

theorem fetchThen_undisturbed {s : State} {k : Byte → State → Out} (hclean : s.rxDisturbed = false)
    (hroom : s.rxbuf.holds s.rx.pos.toNat = true) :
    fetchThen s k = k (s.rxbuf.read .rxbuf s.rx.pos.toNat) { s with rx := { s.rx with pos := s.rx.pos + 1 } } := by
  rw [fetchThen, if_pos hroom, fetched_undisturbed s hclean, rxbufByte, hclean]
  rfl

/-- A turn of RXD in a phase that fetches one byte: it is the byte at RX_POS, and `k` finishes the step
(42_deframer.md R120). -/
theorem step_rxd_fetches {s : State} {rest : List Turn} {k : Byte → State → Out}
    (hturn : s.agenda = .unit .rxd :: rest) (hclean : s.rxDisturbed = false)
    (hroom : s.rxbuf.holds s.rx.pos.toNat = true)
    (hfetch : rxStep exec { s with agenda := rest } = fetchThen { s with agenda := rest } k) :
    step s = k (s.rxbuf.read .rxbuf s.rx.pos.toNat)
      { s with agenda := rest, rx := { s.rx with pos := s.rx.pos + 1 } } := by
  rw [step_rxd_turn hturn, hfetch]
  exact fetchThen_undisturbed (s := { s with agenda := rest }) hclean hroom

/-! ### The marker dispatch (30_encoding.md R55, R57) -/

theorem exec_decodeMarker_short (s : State) :
    exec (decodeMarker 0x02#8) s = .next (dispatchFormat .short .lenl s) := rfl

theorem exec_decodeMarker_long (s : State) :
    exec (decodeMarker 0x03#8) s = .next (dispatchFormat .long .lenh s) := rfl

/-- All seven rows of reserved markers do the same. -/
theorem exec_decodeMarker_reserved {b : Byte} (hshort : b ≠ 0x02#8) (hlong : b ≠ 0x03#8) (s : State) :
    exec (decodeMarker b) s = .next (dispatchReserved b s) := by
  have hs : b ≠ Config.markerShort := hshort
  have hl : b ≠ Config.markerLong := hlong
  rw [decodeMarker, if_neg hs, if_neg hl]
  split_ifs <;> rfl

/-! ### The step of RXD in each phase that dispatches, sizes or checks -/

theorem rxStep_mark_of_empty {s : State} (run : Instr → State → Out) (hphase : s.rx.phase = .mark)
    (hn : s.rx.n = 0) : rxStep run s = .next (rxFinish .noFrame 0 s) := by
  rw [rxStep, hphase]
  exact if_pos hn

theorem rxStep_mark_of_nonempty {s : State} (run : Instr → State → Out) (hphase : s.rx.phase = .mark)
    (hn : s.rx.n ≠ 0) : rxStep run s = fetchThen s fun b s => run (decodeMarker b) s := by
  rw [rxStep, hphase]
  exact if_neg hn

theorem rxStep_crch {s : State} (run : Instr → State → Out) (hphase : s.rx.phase = .crch) :
    rxStep run s = fetchThen s fun b s =>
      .next (rxGoto .crcl { s with rx := { s.rx with fcrc := withHigh s.rx.fcrc b } }) := by
  rw [rxStep, hphase]
  rfl

theorem rxStep_crcl {s : State} (run : Instr → State → Out) (hphase : s.rx.phase = .crcl) :
    rxStep run s = fetchThen s fun b s =>
      .next (rxGoto .term { s with rx := { s.rx with fcrc := withLow s.rx.fcrc b } }) := by
  rw [rxStep, hphase]
  rfl

theorem rxStep_term {s : State} (run : Instr → State → Out) (hphase : s.rx.phase = .term) :
    rxStep run s = fetchThen s fun b s =>
      .next (rxGoto .check { s with rx := { s.rx with term := b } }) := by
  rw [rxStep, hphase]
  rfl

/-- The 17-bit sum of D_SIZE as the size it stands for. -/
theorem sizeSum_eq_ofNat (i : BitVec 2) (l : Half) :
    sizeSum i l = BitVec.ofNat 17 (i.toNat + l.toNat + 3) := by
  rw [← sizeSum_toNat, BitVec.ofNat_toNat, BitVec.setWidth_eq]

theorem rxStep_size_of_incomplete {s : State} (run : Instr → State → Out) (hphase : s.rx.phase = .size)
    (hlt : s.rx.n < s.rx.payidx.toNat + s.rx.paylen.toNat + 3) :
    rxStep run s = .next (rxFinish .noFrame 0 { s with rx := { s.rx with
      fsize := BitVec.ofNat 17 (s.rx.payidx.toNat + s.rx.paylen.toNat + 3)
      flags := s.rx.flags ||| 0b0001#4 } }) := by
  rw [← sizeSum_toNat] at hlt
  rw [rxStep, hphase, ← sizeSum_eq_ofNat]
  exact if_pos hlt

theorem rxStep_size_of_complete {s : State} (run : Instr → State → Out) (hphase : s.rx.phase = .size)
    (hle : s.rx.payidx.toNat + s.rx.paylen.toNat + 3 ≤ s.rx.n) :
    rxStep run s = .next (rxGoto (if s.rx.paylen = 0 then .crch else .pay) { s with rx := { s.rx with
      fsize := BitVec.ofNat 17 (s.rx.payidx.toNat + s.rx.paylen.toNat + 3)
      flags := s.rx.flags ||| 0b0011#4 } }) := by
  have hflags : s.rx.flags ||| 0b0011#4 = s.rx.flags ||| 0b0001#4 ||| 0b0010#4 :=
    (BitVec.or_assoc s.rx.flags 0b0001#4 0b0010#4).symm
  rw [← sizeSum_toNat] at hle
  rw [rxStep, hphase, ← sizeSum_eq_ofNat, hflags]
  exact if_neg (Nat.not_lt.mpr hle)

/-- RX_FLAGS as D_CHECK leaves it: CRC_OK and TERM_OK both judged, the other two kept (10_state.md R20). -/
def checkedFlags (r : RxRegs) : BitVec 4 :=
  (if r.term = 0x03#8 then 0b1000#4 else 0#4) ||| (if r.crc = r.fcrc then 0b0100#4 else 0#4) |||
    (r.flags &&& 0b0011#4)

theorem setFlag_crcOk_termOk : ∀ (f : BitVec 4) (c t : Bool),
    setFlag (setFlag f crcOkBit c) termOkBit t =
      (if t then 0b1000#4 else 0#4) ||| (if c then 0b0100#4 else 0#4) ||| (f &&& 0b0011#4) := by
  decide

theorem setFlag_crcMatches_termMatches (r : RxRegs) :
    setFlag (setFlag r.flags crcOkBit (crcMatches r.crc r.fcrc)) termOkBit (termMatches r.term) =
      checkedFlags r := by
  simp only [setFlag_crcOk_termOk, checkedFlags, crcMatches_iff, termMatches_iff]

/-- The state whose flags D_CHECK has recorded. -/
def withCheckedFlags (s : State) : State := { s with rx := { s.rx with flags := checkedFlags s.rx } }

/-- How D_CHECK ends the operation: the CRC is judged first. -/
def rxVerdict (r : RxRegs) : State → State :=
  if r.crc = r.fcrc then
    if r.term = 0x03#8 then rxFinish .accept r.fsize else raiseFault .invalidTerminator
  else
    match r.mode with
    | .ignore => rxFinish .discard r.fsize
    | .raise => raiseFault .invalidCrc

theorem rxVerdict_ignore_of_crc_ne {r : RxRegs} (hcrc : r.crc ≠ r.fcrc) (hmode : r.mode = .ignore) :
    rxVerdict r = rxFinish .discard r.fsize := by
  rw [rxVerdict, if_neg hcrc, hmode]

theorem rxVerdict_raise_of_crc_ne {r : RxRegs} (hcrc : r.crc ≠ r.fcrc) (hmode : r.mode = .raise) :
    rxVerdict r = raiseFault .invalidCrc := by
  rw [rxVerdict, if_neg hcrc, hmode]

theorem rxVerdict_of_term_ne {r : RxRegs} (hcrc : r.crc = r.fcrc) (hterm : r.term ≠ 0x03#8) :
    rxVerdict r = raiseFault .invalidTerminator := by
  rw [rxVerdict, if_pos hcrc, if_neg hterm]

theorem rxVerdict_of_valid {r : RxRegs} (hcrc : r.crc = r.fcrc) (hterm : r.term = 0x03#8) :
    rxVerdict r = rxFinish .accept r.fsize := by
  rw [rxVerdict, if_pos hcrc, if_pos hterm]

/-- D_CHECK records both flags before its verdict, whatever that is. -/
theorem rxStep_check {s : State} (run : Instr → State → Out) (hphase : s.rx.phase = .check) :
    rxStep run s = .next (rxVerdict s.rx (withCheckedFlags s)) := by
  rw [rxStep, hphase, withCheckedFlags, ← setFlag_crcMatches_termMatches]
  by_cases hcrc : s.rx.crc = s.rx.fcrc
  · have hmatch := crcMatches_iff.mpr hcrc
    by_cases hterm : s.rx.term = 0x03#8
    · rw [rxVerdict_of_valid hcrc hterm]
      exact (if_pos hmatch).trans (if_pos (termMatches_iff.mpr hterm))
    · rw [rxVerdict_of_term_ne hcrc hterm]
      exact (if_pos hmatch).trans (if_neg (mt termMatches_iff.mp hterm))
  · have hdiffer := mt crcMatches_iff.mp hcrc
    obtain ⟨_, ⟨_, mode, _⟩, _⟩ := s
    cases mode with
    | ignore =>
      rw [rxVerdict_ignore_of_crc_ne hcrc rfl]
      exact if_neg hdiffer
    | raise =>
      rw [rxVerdict_raise_of_crc_ne hcrc rfl]
      exact if_neg hdiffer

/-! ### Where the footer stands (42_deframer.md R127, R129) -/

theorem pos_of_rxInv_crch {r : RxRegs} (hphase : r.phase = .crch) (hinv : RxInv r) :
    r.pos.toNat = r.payidx.toNat + r.paylen.toNat := by
  rw [RxInv, hphase] at hinv
  obtain ⟨-, -, hpos⟩ := hinv
  exact hpos

theorem pos_succ_of_rxInv_term {r : RxRegs} (hphase : r.phase = .term) (hinv : RxInv r) :
    r.pos + 1 = r.fsize := by
  rw [RxInv, hphase] at hinv
  obtain ⟨⟨-, -, -, hsize, -⟩, -, hpos⟩ := hinv
  rw [Config.footerSize] at hsize
  bv_omega

/-! ### The statements about DECODE -/

/-- Settles O21: the rows without a complete frame end at the header or at the size it announces; on a complete
frame the answer is the verdict on `frameAt`. -/
theorem decodeDecisionTable : Obligations.DecodeDecisionTable := by
  unfold Obligations.DecodeDecisionTable
  refine ⟨decodeBuffer_of_header_error rfl, ?notMarker, decodeBuffer_of_header_error rfl,
    decodeBuffer_of_header_error rfl, fun h => decodeBuffer_of_header_error rfl, ?shortIncomplete,
    ?longIncomplete, ?complete, decodeHeader_short, decodeHeader_long⟩
  case notMarker =>
    intro m r mode hshort hlong
    exact decodeBuffer_of_header_error (decodeHeader_of_no_format (formatOf_eq_none hshort hlong) r) mode
  case shortIncomplete =>
    intro l r mode hlt
    refine decodeBuffer_of_incomplete (decodeHeader_short l r) ?_ mode
    simp only [List.length_cons, frameSize, Format.headerSize, Config.hdrSizeShort, Config.footerSize]
    omega
  case longIncomplete =>
    intro h l r mode hlt
    refine decodeBuffer_of_incomplete (decodeHeader_long h l r) ?_ mode
    simp only [List.length_cons, frameSize, Format.headerSize, Config.hdrSizeLong, Config.footerSize]
    omega
  case complete =>
    intro b fmt len hheader hle h payload crc term
    have hjudge := decodeBuffer_of_frame (decodeFrame_of_complete hheader hle)
    have htotal : frameTotal (frameAt b fmt len) = h + len + 3 := frameTotal_frameAt hle
    rw [← htotal]
    refine ⟨fun hcrc => ⟨?_, ?_⟩, fun hcrc hterm mode => ?_, fun hcrc hterm mode => ?_⟩
    · exact (hjudge .ignore).trans (judge_ignore_of_crc_ne hcrc)
    · exact (hjudge .raise).trans (judge_raise_of_crc_ne hcrc)
    · exact (hjudge mode).trans (judge_of_term_ne (f := frameAt b fmt len) hcrc hterm mode)
    · exact (hjudge mode).trans (judge_of_valid (f := frameAt b fmt len) hcrc hterm mode)

/-- Settles O22: a frame of ENCODE with a footer field replaced is the wire form of another frame, so each clause
is a verdict; a strict initial part announces more than it holds. -/
theorem decodeSensitivity : Obligations.DecodeSensitivity := by
  unfold Obligations.DecodeSensitivity
  intro p f hf
  obtain ⟨⟨-, hlim⟩, rfl⟩ := (encodePayload_eq_frame_iff p f).mp hf
  have hwf : (frameFor p).wf = true := frameFor_wf hlim
  have haccept (mode : ErrMode) : decodeBuffer (encodeFrame (frameFor p)) mode =
      .accept p (encodeFrame (frameFor p)).length := by
    rw [decodeBuffer_encodeFrame hwf, judge_of_valid rfl rfl, frameTotal_frameFor]
    rfl
  refine ⟨haccept, fun i k hi hk => ?flipped, fun b mode hb => ?terminator, fun n mode hn => ⟨?initial, ?rest⟩⟩
  case flipped =>
    obtain ⟨c, hc, hset⟩ := encodeFrame_flip_crc_bit (frameFor p) hi hk
    have hjudge := decodeBuffer_encodeFrame (f := { frameFor p with crc := c }) hwf
    rw [hset, ← frameTotal_frameFor]
    exact ⟨(hjudge .raise).trans (judge_raise_of_crc_ne hc.symm),
      (hjudge .ignore).trans (judge_ignore_of_crc_ne hc.symm)⟩
  case terminator =>
    rw [encodeFrame_set_term]
    exact (decodeBuffer_encodeFrame (f := { frameFor p with term := b }) hwf mode).trans
      (judge_of_term_ne rfl hb mode)
  case initial => exact decodeBuffer_take_encodeFrame hwf hn mode
  case rest =>
    rw [List.take_append_drop]
    exact haccept mode

/-- Settles O26: by `decodeBuffer_cases` a count is the total of a frame that the buffer holds, and no total
is 0. -/
theorem consumedIsZeroOrFrameSize : Obligations.ConsumedIsZeroOrFrameSize := by
  unfold Obligations.ConsumedIsZeroOrFrameSize
  intro b mode
  obtain hnone | ⟨c, hfault⟩ | ⟨f, hf, hout⟩ := decodeBuffer_cases b mode
  · simp [hnone, DecOutcome.consumed]
  · simp [hfault, DecOutcome.consumed]
  · have hmin := five_le_frameTotal f
    have hmax := frameTotal_le_length hf
    have hne : frameTotal f ≠ 0 := by omega
    obtain haccept | hdiscard := hout
    · simp [haccept, DecOutcome.consumed, hf, hmin, hmax, hne]
    · simp [hdiscard, DecOutcome.consumed, hf, hmin, hmax, hne]

/-! ### The statements about the steps of RXD -/

/-- Settles O33: the sum stays below 2^17, so it is compared as it stands. -/
theorem rxdSizeStep : Obligations.RxdSizeStep := by
  unfold Obligations.RxdSizeStep
  intro s rest hturn hphase hpayidx fs
  have hidx : s.rx.payidx.toNat = 2 ∨ s.rx.payidx.toNat = 3 :=
    hpayidx.imp (congrArg BitVec.toNat) (congrArg BitVec.toNat)
  have hlen := s.rx.paylen.isLt
  refine ⟨by omega, by omega, fun hlt => ?_, fun hle => ?_⟩
  · rw [step_rxd_turn hturn]
    exact rxStep_size_of_incomplete (s := { s with agenda := rest }) exec hphase hlt
  · rw [step_rxd_turn hturn]
    exact rxStep_size_of_complete (s := { s with agenda := rest }) exec hphase hle

/-- Settles O31: on a snapshot that is not empty D_MARK is the fetch of byte 0 and the row it selects. -/
theorem rxdMarkStep : Obligations.RxdMarkStep := by
  unfold Obligations.RxdMarkStep
  intro s rest hturn hphase hclean hpos hroom
  have hdispatch (hn : s.rx.n ≠ 0) :
      step s = exec (decodeMarker (s.rxbuf.read .rxbuf 0))
        { s with agenda := rest, rx := { s.rx with pos := 1 } } := by
    have hstep := step_rxd_fetches hturn hclean (hpos ▸ hroom)
      (rxStep_mark_of_nonempty (s := { s with agenda := rest }) exec hphase hn)
    rwa [hpos] at hstep
  refine ⟨fun hn => ?empty, fun hn hb => ?short, fun hn hb => ?long, fun hn hshort hlong => ?reserved⟩
  case empty =>
    rw [step_rxd_turn hturn]
    exact rxStep_mark_of_empty (s := { s with agenda := rest }) exec hphase hn
  case short => rw [hdispatch hn, hb, exec_decodeMarker_short]; rfl
  case long => rw [hdispatch hn, hb, exec_decodeMarker_long]; rfl
  case reserved => rw [hdispatch hn, exec_decodeMarker_reserved hshort hlong]; rfl

/-- Settles O35: each footer phase is one fetch into a field of the footer; the positions are the invariant's. -/
theorem rxdFooterSteps : Obligations.RxdFooterSteps := by
  unfold Obligations.RxdFooterSteps
  intro s rest hturn hclean hroom b
  refine ⟨fun hcrch => ⟨?_, pos_of_rxInv_crch hcrch⟩, fun hcrcl => ?_,
    fun hterm => ⟨?_, pos_succ_of_rxInv_term hterm⟩⟩
  · exact step_rxd_fetches hturn hclean hroom (rxStep_crch exec hcrch)
  · exact step_rxd_fetches hturn hclean hroom (rxStep_crcl exec hcrcl)
  · exact step_rxd_fetches hturn hclean hroom (rxStep_term exec hterm)

/-- Settles O36: the four verdicts of `rxVerdict`, each on the state whose flags are recorded. -/
theorem rxdCheckStep : Obligations.RxdCheckStep := by
  unfold Obligations.RxdCheckStep
  intro s rest hturn hphase
  rw [step_rxd_turn hturn, rxStep_check (s := { s with agenda := rest }) exec hphase]
  refine ⟨fun hcrc hmode => ?_, fun hcrc hmode => ?_, fun hcrc hterm => ?_, fun hcrc hterm => ?_⟩
  · rw [rxVerdict_ignore_of_crc_ne hcrc hmode]; rfl
  · rw [rxVerdict_raise_of_crc_ne hcrc hmode]; rfl
  · rw [rxVerdict_of_term_ne hcrc hterm]; rfl
  · rw [rxVerdict_of_valid hcrc hterm]; rfl

end Sys2Proof.Machine

/-! PROOFS, 70_reset_and_hazards.md. The registers after reset (R170), and the reset event as a turn of the
machine (R172, R173). -/

namespace Sys2Proof.Machine

/-! ### The units right after reset (70_reset_and_hazards.md R170; 10_state.md R19) -/

@[simp] theorem crcParams_init_eq_zero : Config.crcParams.init = 0x0000#16 := rfl

theorem txBusy_reset : txBusy State.reset = false := rfl

theorem rxBusy_reset : rxBusy State.reset = false := rfl

/-! ### The reset event -/

/-- A reset at the head of the agenda is the whole step, whatever the units are doing. -/
theorem step_reset_turn {s : State} {rest : List Turn} (hturn : s.agenda = .reset :: rest) :
    step s = .next (resetBlock { s with agenda := rest }) := by
  rw [step_turn s .reset rest hturn, takeTurn_reset]

/-! ### The statement -/

/-- Settles O48: the reset event is `resetBlock` on the state whose turn is taken, and both accumulators start at
CRC_INIT, which is zero. -/
theorem resetPutsRegistersAtReset : Obligations.ResetPutsRegistersAtReset := by
  unfold Obligations.ResetPutsRegistersAtReset
  refine ⟨?txRegs, ?rxRegs, txBusy_reset, rxBusy_reset, fun s rest hturn => ?event⟩
  case txRegs => simp [State.reset, TxRegs.reset]
  case rxRegs => simp [State.reset, RxRegs.reset]
  case event => simp [step_reset_turn hturn, resetBlock, TxRegs.reset, RxRegs.reset]

end Sys2Proof.Machine

/-! PROOFS, 30_encoding.md. The words of the rows (R55, R57, R62), and the frame codec in both directions (R50 to
R54, R56). -/

namespace Sys2Proof.Machine

/-! ### The marker rows (30_encoding.md R55, R57) -/

theorem decodeMarker_of_rowAdmits_reserved :
    ∀ b : Byte,
      (rowAdmits 0xFE#8 0x00#8 b = true → decodeMarker b = .markerReserved0 b) ∧
      (rowAdmits 0xFC#8 0x04#8 b = true → decodeMarker b = .markerReserved1 b) ∧
      (rowAdmits 0xF8#8 0x08#8 b = true → decodeMarker b = .markerReserved2 b) ∧
      (rowAdmits 0xF0#8 0x10#8 b = true → decodeMarker b = .markerReserved3 b) ∧
      (rowAdmits 0xE0#8 0x20#8 b = true → decodeMarker b = .markerReserved4 b) ∧
      (rowAdmits 0xC0#8 0x40#8 b = true → decodeMarker b = .markerReserved5 b) ∧
      (rowAdmits 0x80#8 0x80#8 b = true → decodeMarker b = .markerReserved6 b) := by
  decide

/-- The row that remains after the others is the one whose words have bit 7 set. -/
theorem wellFormed_decodeMarker : ∀ b : Byte, wellFormed (decodeMarker b) = true := by
  decide

theorem encode_decodeMarker (b : Byte) : encode (decodeMarker b) = some (.marker b) := by
  by_cases hshort : b = Config.markerShort
  · subst hshort; rfl
  by_cases hlong : b = Config.markerLong
  · subst hlong; rfl
  rw [decodeMarker, if_neg hshort, if_neg hlong]
  split_ifs <;> rfl

theorem decodeKey_marker (b : Byte) (n : Nat) : decodeKey (.marker b) n = .ok (decodeMarker b) := rfl

theorem decodeKey_of_encode {i : Instr} (hwf : wellFormed i = true) {k : Key} (hk : encode i = some k) :
    decodeKey k (lengthOperand i) = .ok i := by
  have hreserved := decodeMarker_of_rowAdmits_reserved
  cases i with
  | markerReserved0 b => cases hk; obtain ⟨h, -⟩ := hreserved b; rw [decodeKey_marker, h hwf]
  | markerReserved1 b => cases hk; obtain ⟨-, h, -⟩ := hreserved b; rw [decodeKey_marker, h hwf]
  | markerReserved2 b => cases hk; obtain ⟨-, -, h, -⟩ := hreserved b; rw [decodeKey_marker, h hwf]
  | markerReserved3 b => cases hk; obtain ⟨-, -, -, h, -⟩ := hreserved b; rw [decodeKey_marker, h hwf]
  | markerReserved4 b => cases hk; obtain ⟨-, -, -, -, h, -⟩ := hreserved b; rw [decodeKey_marker, h hwf]
  | markerReserved5 b => cases hk; obtain ⟨-, -, -, -, -, h, -⟩ := hreserved b; rw [decodeKey_marker, h hwf]
  | markerReserved6 b => cases hk; obtain ⟨-, -, -, -, -, -, h⟩ := hreserved b; rw [decodeKey_marker, h hwf]
  | _ => cases hk <;> rfl

/-! ### The key OPSEL (30_encoding.md R62) -/

theorem opsel_cases : ∀ k : BitVec 2, k = 0b00#2 ∨ k = 0b01#2 ∨ k = 0b10#2 ∨ k = 0b11#2 := by
  decide

/-- The three operations, as the key selects them. -/
theorem decodeOpsel_cases (k : BitVec 2) (n : Nat) :
    decodeOpsel k n = .encodeOp n ∨ ∃ mode, decodeOpsel k n = decodeInstr mode n := by
  obtain rfl | rfl | rfl | rfl := opsel_cases k
  · exact .inl rfl
  · exact .inl rfl
  · exact .inr ⟨.ignore, rfl⟩
  · exact .inr ⟨.raise, rfl⟩

theorem encode_decodeOpsel {k : BitVec 2} (hk : k ≠ 0b01#2) (n : Nat) :
    encode (decodeOpsel k n) = some (.opsel k) := by
  obtain rfl | rfl | rfl | rfl := opsel_cases k
  · rfl
  · exact absurd rfl hk
  · rfl
  · rfl

/-! ### The frame codec (30_encoding.md R50 to R54, R56) -/

/-- A header that is read is the header of the format and the length it gives. -/
theorem eq_headerBytes_append_of_decodeHeader {b : List Byte} {fmt : Format} {len : Nat}
    (h : decodeHeader b = .ok (fmt, len)) : len ≤ fmt.maxLen ∧ ∃ r, b = headerBytes fmt len ++ r := by
  obtain ⟨l, r, rfl, rfl, rfl⟩ | ⟨hi, l, r, rfl, rfl, rfl⟩ := decodeHeader_ok_cases h
  · refine ⟨Nat.le_of_lt_succ l.isLt, r, ?_⟩
    have hl : loByte (BitVec.ofNat 16 l.toNat) = l := by
      rw [BitVec.ofNat_toNat]
      exact BitVec.eq_of_toNat_eq (by rw [loByte_toNat, BitVec.toNat_setWidth]; omega)
    rw [headerBytes, hl]
    rfl
  · rw [← joinBytes_toNat]
    refine ⟨Nat.le_of_lt_succ (joinBytes hi l).isLt, r, ?_⟩
    simp [headerBytes, Config.markerLong]

/-- A buffer with a complete frame is the wire form of a frame, and what follows it. -/
theorem exists_eq_encodeFrame_append {b : List Byte} {fmt : Format} {len : Nat}
    (h : decodeHeader b = .ok (fmt, len)) (hle : frameSize fmt len ≤ b.length) :
    ∃ f x, f.wf = true ∧ b = encodeFrame f ++ x := by
  obtain ⟨hmax, r, rfl⟩ := eq_headerBytes_append_of_decodeHeader h
  rw [List.length_append, headerBytes_length, frameSize, Config.footerSize] at hle
  have hpayload : (r.take len).length = len := by rw [List.length_take]; omega
  have hfooter : 3 ≤ (r.drop len).length := by rw [List.length_drop]; omega
  match hrest : r.drop len, hfooter with
  | c :: d :: t :: x, _ =>
    refine ⟨{ format := fmt, payload := r.take len, crc := joinBytes c d, term := t }, x, ?_, ?_⟩
    · exact decide_eq_true (hpayload.symm ▸ hmax)
    · simp only [encodeFrame, hpayload, hiByte_joinBytes, loByte_joinBytes, List.append_assoc]
      simp [← hrest]

/-- What DECODE reads as a frame is the wire form of that frame at the front of the buffer, and no other. -/
theorem decodeFrame_eq_ok_iff {b : List Byte} {f : Frame} :
    decodeFrame b = .ok f ↔ f.wf = true ∧ ∃ x, b = encodeFrame f ++ x := by
  constructor
  · intro h
    obtain ⟨fmt, len, hheader, hle, -⟩ := decodeFrame_ok_cases h
    obtain ⟨g, x, hwf, rfl⟩ := exists_eq_encodeFrame_append hheader hle
    rw [decodeFrame_encodeFrame_append hwf] at h
    cases h
    exact ⟨hwf, x, rfl⟩
  · rintro ⟨hwf, x, rfl⟩
    exact decodeFrame_encodeFrame_append hwf x

theorem encodeFrame_injective_of_wf {f g : Frame} (hf : f.wf = true) (hg : g.wf = true)
    (h : encodeFrame f = encodeFrame g) : f = g := by
  have hread := decodeFrame_encodeFrame_append hf []
  rw [h, decodeFrame_encodeFrame_append hg] at hread
  exact (Except.ok.inj hread).symm

theorem take_frameTotal_encodeFrame_append (f : Frame) (x : List Byte) :
    (encodeFrame f ++ x).take (frameTotal f) = encodeFrame f :=
  List.take_left' (encodeFrame_length f)

/-! ### The statements -/

/-- Settles O3: the header gives back format and length, and `frameAt` the fields at the places they name. -/
theorem frameDecodeInvertsEncode : Obligations.FrameDecodeInvertsEncode := by
  unfold Obligations.FrameDecodeInvertsEncode
  exact fun f after hwf => decodeFrame_encodeFrame_append hwf after

/-- Settles O4: by `decodeFrame_eq_ok_iff` the buffer is the frame and some bytes behind it. -/
theorem decodedFrameIsTheLeadingBytes : Obligations.DecodedFrameIsTheLeadingBytes := by
  unfold Obligations.DecodedFrameIsTheLeadingBytes
  intro buffer f h
  obtain ⟨hwf, x, rfl⟩ := decodeFrame_eq_ok_iff.mp h
  exact ⟨hwf, frameTotal_le_length h, (take_frameTotal_encodeFrame_append f x).symm⟩

/-- Settles O2: the row masks are disjoint, so a reserved marker finds its row; the nine rows and the four keys
are finitely many words. -/
theorem decodeInvertsEncode : Obligations.DecodeInvertsEncode := by
  unfold Obligations.DecodeInvertsEncode
  exact ⟨fun i hwf k hk => decodeKey_of_encode hwf hk,
    fun b => ⟨wellFormed_decodeMarker b, encode_decodeMarker b⟩, fun k n hk => encode_decodeOpsel hk n⟩

/-- Settles O1: each word is compared with the masks in the order of the rows. -/
theorem rowWordsDecode : Obligations.RowWordsDecode := by
  unfold Obligations.RowWordsDecode
  decide

end Sys2Proof.Machine

/-! PROOFS, 40_crc.md. The table form of CRC.UPD (R73) and the laws of CRC16 (R77): both rest on the linearity of
one update. -/

namespace Sys2Proof.Machine

/-! ### Linearity (40_crc.md R77 (a)) -/

theorem crcShift_xor (c d : Half) : crcShift (c ^^^ d) = crcShift c ^^^ crcShift d := by
  have htop : (c ^^^ d).getLsbD 15 = (c.getLsbD 15 ^^ d.getLsbD 15) := BitVec.getLsbD_xor
  cases hc : c.getLsbD 15 <;> cases hd : d.getLsbD 15 <;> rw [hc, hd] at htop
  · rw [crcShift_of_bit15_clear htop, crcShift_of_bit15_clear hc, crcShift_of_bit15_clear hd,
      BitVec.shiftLeft_xor_distrib]
  · rw [crcShift_of_bit15_set htop, crcShift_of_bit15_clear hc, crcShift_of_bit15_set hd,
      BitVec.shiftLeft_xor_distrib]
    ac_rfl
  · rw [crcShift_of_bit15_set htop, crcShift_of_bit15_set hc, crcShift_of_bit15_clear hd,
      BitVec.shiftLeft_xor_distrib]
    ac_rfl
  · rw [crcShift_of_bit15_clear htop, crcShift_of_bit15_set hc, crcShift_of_bit15_set hd,
      BitVec.shiftLeft_xor_distrib]
    calc c <<< 1 ^^^ d <<< 1
        = c <<< 1 ^^^ d <<< 1 ^^^ (0x1021#16 ^^^ 0x1021#16) := by rw [BitVec.xor_self, BitVec.xor_zero]
      _ = c <<< 1 ^^^ 0x1021#16 ^^^ (d <<< 1 ^^^ 0x1021#16) := by ac_rfl

theorem crcIterate_xor (n : Nat) (c d : Half) :
    crcIterate n (c ^^^ d) = crcIterate n c ^^^ crcIterate n d := by
  induction n generalizing c d with
  | zero => rfl
  | succ n ih => rw [crcIterate, crcShift_xor, ih]; rfl

theorem crcUpdate_xor (c d : Half) (a b : Byte) :
    crcUpdate (c ^^^ d) (a ^^^ b) = crcUpdate c a ^^^ crcUpdate d b := by
  simp only [crcUpdate_eq_crcIterate_joinBytes, ← crcIterate_xor, joinBytes_xor_joinBytes]
  congr 2
  · rw [hiByte, BitVec.extractLsb'_xor]
    simp only [hiByte]
    ac_rfl
  · exact BitVec.extractLsb'_xor

theorem crcFold_zipWith_xor {s t : List Byte} (h : s.length = t.length) (c d : Half) :
    crcFold (c ^^^ d) (List.zipWith (· ^^^ ·) s t) = crcFold c s ^^^ crcFold d t := by
  induction s generalizing t c d with
  | nil =>
    obtain rfl := List.length_eq_zero_iff.mp h.symm
    rfl
  | cons a s ih =>
    match t, h with
    | b :: t, h =>
      simp only [List.zipWith_cons_cons, crcFold_cons, crcUpdate_xor]
      exact ih (Nat.succ.inj h) _ _

/-! ### A changed byte changes the CRC (40_crc.md R77 (d)) -/

theorem crcUpdate_byte_injective (c : Half) : Function.Injective (crcUpdate c) := by
  intro a b h
  rw [crcUpdate_eq_crcIterate_joinBytes, crcUpdate_eq_crcIterate_joinBytes] at h
  have hhigh := congrArg hiByte (crcIterate_injective 8 h)
  rwa [hiByte_joinBytes, hiByte_joinBytes, BitVec.xor_right_inj] at hhigh

theorem crcFold_injective (s : List Byte) : Function.Injective (crcFold · s) := by
  induction s with
  | nil => exact fun _ _ h => h
  | cons b s ih => exact fun c d h => crcUpdate_injective b (ih h)

theorem eq_getD_of_crcFold_set_eq {s : List Byte} {i : Nat} {b : Byte} (hi : i < s.length) {c : Half}
    (h : crcFold c (s.set i b) = crcFold c s) : b = s.getD i 0 := by
  induction s generalizing i c with
  | nil => exact absurd hi (Nat.not_lt_zero i)
  | cons a s ih =>
    cases i with
    | zero => exact crcUpdate_byte_injective c (crcFold_injective s h)
    | succ i => exact ih (Nat.lt_of_succ_lt_succ hi) h

/-! ### The table (40_crc.md R73) -/

theorem specCrcTable_length : specCrcTable.length = 256 := by
  unfold specCrcTable
  simp only [List.length_append, List.length_cons, List.length_nil]

/-! ### The statements -/

/-- Settles O7: a byte that cancels the high half leaves only a shift, and by linearity the difference to it is
the update of a cleared accumulator, which is the table's entry. -/
theorem crcTableFormAgrees : Obligations.CrcTableFormAgrees := by
  unfold Obligations.CrcTableFormAgrees
  refine ⟨specCrcTable_length, fun i => ?entry, fun c b => ?update⟩
  case entry =>
    have hlt : i.toNat < specCrcTable.length := specCrcTable_length ▸ i.isLt
    rw [crcUpdate_zero_eq_specCrcTable, List.getD_eq_getElem _ _ hlt, List.getElem?_eq_getElem hlt]
  case update =>
    have hshift : crcUpdate c (hiByte c) = c <<< 8 := by
      have hself := crcUpdate_joinBytes_self (hiByte c) (loByte c)
      rw [joinBytes_hiByte_loByte] at hself
      rw [hself]
      apply BitVec.eq_of_toNat_eq
      rw [joinBytes_toNat, loByte_toNat, BitVec.toNat_shiftLeft, Nat.shiftLeft_eq, BitVec.toNat_ofNat]
      omega
    calc crcUpdate c b
        = crcUpdate (c ^^^ 0x0000#16) (hiByte c ^^^ (hiByte c ^^^ b)) := by
          rw [BitVec.xor_zero, ← BitVec.xor_assoc, BitVec.xor_self, BitVec.zero_xor]
      _ = c <<< 8 ^^^ specCrcTable.getD (hiByte c ^^^ b).toNat 0 := by
          rw [crcUpdate_xor, hshift, crcUpdate_zero_eq_specCrcTable]

/-- Settles O10: the fold is linear, continues, keeps zero on zeros, and is injective in each byte. -/
theorem crcLaws : Obligations.CrcLaws := by
  unfold Obligations.CrcLaws
  simp only [crcOf_eq_crcFold]
  refine ⟨fun s t hlen => ?linear, crcFold_append _, fun n s => ?zeros, fun s i k hi hk h => ?bit⟩
  case linear => exact crcFold_zipWith_xor hlen 0x0000#16 0x0000#16
  case zeros => rw [crcFold_append, crcFold_zero_replicate_zero]
  case bit => exact xor_bit_ne_self _ hk (eq_getD_of_crcFold_set_eq hi h)

end Sys2Proof.Machine

/-! PROOFS, 41_framer.md and 42_deframer.md. What ENCODE and DECODE say of one another as functions of bytes (R91,
R95, R114, R117, R118, R135). -/

namespace Sys2Proof.Machine

/-! ### The frames of ENCODE (41_framer.md R92, R95) -/

theorem encodePayload_frame {p : List Byte} (hpos : 1 ≤ p.length) (hlim : p.length < 65536) :
    encodePayload p = .frame (encodeFrame (frameFor p)) :=
  (encodePayload_eq_frame_iff p _).mpr ⟨⟨hpos, hlim⟩, rfl⟩

theorem decodeBuffer_frameFor_append {p : List Byte} (hlim : p.length < 65536) (x : List Byte) (mode : ErrMode) :
    decodeBuffer (encodeFrame (frameFor p) ++ x) mode = .accept p (encodeFrame (frameFor p)).length := by
  rw [decodeBuffer_of_frame (decodeFrame_encodeFrame_append (frameFor_wf hlim) x), judge_of_valid rfl rfl,
    frameTotal_frameFor]
  rfl

theorem decodeBuffer_frameFor {p : List Byte} (hlim : p.length < 65536) (mode : ErrMode) :
    decodeBuffer (encodeFrame (frameFor p)) mode = .accept p (encodeFrame (frameFor p)).length := by
  simpa using decodeBuffer_frameFor_append hlim [] mode

theorem encodeFrame_head? (f : Frame) : (encodeFrame f).head? = some f.format.marker := by
  cases hf : f.format <;> simp [encodeFrame, headerBytes, hf, Format.marker]

theorem encodeFrame_getLast? (f : Frame) : (encodeFrame f).getLast? = some f.term := by
  simp [encodeFrame]

/-- The payload with the two CRC bytes behind it, as they stand in a frame. -/
theorem slice_encodeFrame_payload_crc (f : Frame) :
    slice (encodeFrame f) f.format.headerSize (f.payload.length + 2) = f.payload ++ [hiByte f.crc, loByte f.crc] := by
  have hsplit : encodeFrame f = headerBytes f.format f.payload.length ++
      ((f.payload ++ [hiByte f.crc, loByte f.crc]) ++ [f.term]) := by
    simp [encodeFrame]
  rw [slice, hsplit, List.drop_left' (headerBytes_length _ _), List.take_left' (by simp)]

/-- Settles O13: a frame of ENCODE is well-formed and valid, so DECODE accepts it, and the payload that it accepts
is the only one with that frame. -/
theorem encodeRoundTrip : Obligations.EncodeRoundTrip := by
  unfold Obligations.EncodeRoundTrip
  intro p hpos hlim
  refine ⟨_, encodePayload_frame hpos hlim, decodeBuffer_frameFor hlim, encodeFrame_frameFor_length p,
    fun q hq => ?injective, ?first, encodeFrame_getLast? _, ?residue⟩
  case injective =>
    obtain ⟨⟨-, hqlim⟩, heq⟩ := (encodePayload_eq_frame_iff q _).mp hq
    have hframe := encodeFrame_injective_of_wf (frameFor_wf hlim) (frameFor_wf hqlim) heq
    exact (congrArg Frame.payload hframe).symm
  case first =>
    rw [encodeFrame_head?]
    cases (frameFor p).format
    · exact .inl rfl
    · exact .inr rfl
  case residue =>
    have hslice := slice_encodeFrame_payload_crc (frameFor p)
    change slice _ (formatFor p.length).headerSize (p.length + 2) = _ at hslice
    rw [hslice, crcOf_eq_crcFold, crcFold_append, crcFold_pair_eq_zero_iff, joinBytes_hiByte_loByte]
    exact (crcOf_eq_crcFold p).symm

/-! ### DECODE, longer buffers and complete ones (42_deframer.md R114, R135) -/

theorem judge_ne_noFrame (f : Frame) (mode : ErrMode) : judge f mode ≠ .noFrame := by
  obtain h | h | ⟨c, h⟩ := judge_cases f mode <;> rw [h] <;> exact DecOutcome.noConfusion

/-- DECODE waits exactly while there is no complete frame. -/
theorem decodeBuffer_ne_noFrame_iff {b : List Byte} {mode : ErrMode} :
    decodeBuffer b mode ≠ .noFrame ↔ ∃ f, decodeFrame b = .ok f := by
  cases hf : decodeFrame b with
  | error e => simp [decodeBuffer_of_reject hf]
  | ok f => simp [decodeBuffer_of_frame hf, judge_ne_noFrame]

theorem decodeFrame_append {b : List Byte} {f : Frame} (h : decodeFrame b = .ok f) (x : List Byte) :
    decodeFrame (b ++ x) = .ok f := by
  obtain ⟨hwf, y, rfl⟩ := decodeFrame_eq_ok_iff.mp h
  exact decodeFrame_eq_ok_iff.mpr ⟨hwf, y ++ x, List.append_assoc _ _ _⟩

/-- An outcome other than NoFrame is final (42_deframer.md R135 (b)). -/
theorem decodeBuffer_append {b : List Byte} {mode : ErrMode} (h : decodeBuffer b mode ≠ .noFrame) (x : List Byte) :
    decodeBuffer (b ++ x) mode = decodeBuffer b mode := by
  obtain ⟨f, hf⟩ := decodeBuffer_ne_noFrame_iff.mp h
  rw [decodeBuffer_of_frame hf, decodeBuffer_of_frame (decodeFrame_append hf x)]

theorem decodeBuffer_ne_noFrame_of_complete {b : List Byte} {fmt : Format} {len : Nat}
    (h : decodeHeader b = .ok (fmt, len)) (hle : frameSize fmt len ≤ b.length) (mode : ErrMode) :
    decodeBuffer b mode ≠ .noFrame :=
  decodeBuffer_ne_noFrame_iff.mpr ⟨_, decodeFrame_of_complete h hle⟩

/-- No short frame is longer than 260 bytes (42_deframer.md R135 (d)). -/
theorem decodeBuffer_short_ne_noFrame {r : List Byte} (hlen : 260 ≤ (0x02#8 :: r).length) (mode : ErrMode) :
    decodeBuffer (0x02#8 :: r) mode ≠ .noFrame := by
  match r, hlen with
  | l :: r, hlen =>
    refine decodeBuffer_ne_noFrame_of_complete (decodeHeader_short l r) (Nat.le_trans ?_ hlen) mode
    have hl := l.isLt
    rw [frameSize, Format.headerSize, Config.hdrSizeShort, Config.footerSize]
    omega

/-- No long frame is longer than MAX_FRAME (42_deframer.md R135 (d)). -/
theorem decodeBuffer_long_ne_noFrame {r : List Byte} (hlen : 65541 ≤ (0x03#8 :: r).length) (mode : ErrMode) :
    decodeBuffer (0x03#8 :: r) mode ≠ .noFrame := by
  match r, hlen with
  | h :: l :: r, hlen =>
    refine decodeBuffer_ne_noFrame_of_complete (decodeHeader_long h l r) (Nat.le_trans ?_ hlen) mode
    have hh := h.isLt
    have hl := l.isLt
    rw [frameSize, Format.headerSize, Config.hdrSizeLong, Config.footerSize]
    omega

theorem judge_modes_agree {f : Frame} (h : crcOf f.payload = f.crc) : judge f .ignore = judge f .raise := by
  by_cases hterm : f.term = 0x03#8
  · rw [judge_of_valid h hterm, judge_of_valid h hterm]
  · rw [judge_of_term_ne h hterm, judge_of_term_ne h hterm]

theorem judge_eq_accept_iff {f : Frame} {mode : ErrMode} {p : List Byte} {n : Nat} :
    judge f mode = .accept p n ↔
      crcOf f.payload = f.crc ∧ f.term = 0x03#8 ∧ p = f.payload ∧ n = frameTotal f := by
  by_cases hcrc : crcOf f.payload = f.crc
  · by_cases hterm : f.term = 0x03#8
    · simp [judge_of_valid hcrc hterm, hcrc, hterm, eq_comm (a := p), eq_comm (a := n)]
    · simp [judge_of_term_ne hcrc hterm, hterm]
  · cases mode with
    | ignore => simp [judge_ignore_of_crc_ne hcrc, hcrc]
    | raise => simp [judge_raise_of_crc_ne hcrc, hcrc]

/-- Settles O23: every clause but the first is about whether the buffer has a complete frame, and which. -/
theorem decodeFurtherProperties : Obligations.DecodeFurtherProperties := by
  unfold Obligations.DecodeFurtherProperties
  refine ⟨fun b mode => ⟨_, rfl, fun _ h => h.symm⟩, fun b mode x h => decodeBuffer_append h x, ?notMarker,
    fun r mode x hlen => decodeBuffer_short_ne_noFrame hlen mode,
    fun r mode x hlen => decodeBuffer_long_ne_noFrame hlen mode, fun b => ?modes, fun b mode => ?consumed,
    fun b mode p n haccept => ?window⟩
  case notMarker =>
    intro m r mode x hshort hlong
    exact decodeBuffer_of_header_error (decodeHeader_of_no_format (formatOf_eq_none hshort hlong) (r ++ x)) mode
  case modes =>
    cases hf : decodeFrame b with
    | error e => exact .inl (by rw [decodeBuffer_of_reject hf, decodeBuffer_of_reject hf])
    | ok f =>
      by_cases hcrc : crcOf f.payload = f.crc
      · rw [decodeBuffer_of_frame hf, decodeBuffer_of_frame hf]
        exact .inl (judge_modes_agree hcrc)
      · exact .inr ⟨f, rfl, hcrc⟩
  case consumed =>
    obtain hnone | ⟨c, hfault⟩ | ⟨f, hf, haccept | hdiscard⟩ := decodeBuffer_cases b mode
    · rw [hnone]; exact Nat.zero_le _
    · rw [hfault]; exact Nat.zero_le _
    · rw [haccept]; exact frameTotal_le_length hf
    · rw [hdiscard]; exact frameTotal_le_length hf
  case window =>
    obtain ⟨f, hf⟩ := decodeBuffer_ne_noFrame_iff.mp (fun hnone => by cases haccept.symm.trans hnone)
    rw [decodeBuffer_of_frame hf] at haccept
    obtain ⟨-, -, rfl, -⟩ := judge_eq_accept_iff.mp haccept
    obtain ⟨fmt, len, hheader, -, rfl⟩ := decodeFrame_ok_cases hf
    exact ⟨fmt, len, hheader, rfl⟩

/-- Settles O24: a complete frame is the front of the buffer, and `decodeFrame` of the front is the same frame. -/
theorem decodeTakesOneFrame : Obligations.DecodeTakesOneFrame := by
  unfold Obligations.DecodeTakesOneFrame
  constructor
  · intro b f mode hf
    obtain ⟨hwf, x, rfl⟩ := decodeFrame_eq_ok_iff.mp hf
    rw [take_frameTotal_encodeFrame_append, decodeBuffer_of_frame hf, decodeBuffer_encodeFrame hwf]
  · intro p q f g mode hp hq
    obtain ⟨⟨-, hplim⟩, rfl⟩ := (encodePayload_eq_frame_iff p f).mp hp
    obtain ⟨⟨-, hqlim⟩, rfl⟩ := (encodePayload_eq_frame_iff q g).mp hq
    rw [decodeBuffer_frameFor_append hplim, DecOutcome.consumed, List.drop_left]
    exact ⟨rfl, decodeBuffer_frameFor hqlim mode⟩

/-! ### Frames that ENCODE does not build (42_deframer.md R117, R118) -/

theorem decodeBuffer_encodeFrame_eq_accept_iff {f : Frame} (hwf : f.wf = true) {mode : ErrMode} {p : List Byte}
    {n : Nat} : decodeBuffer (encodeFrame f) mode = .accept p n ↔
      crcOf f.payload = f.crc ∧ f.term = 0x03#8 ∧ p = f.payload ∧ n = frameTotal f := by
  rw [decodeBuffer_encodeFrame hwf, judge_eq_accept_iff]

theorem wf_of_length_lt_256 {f : Frame} (h : f.payload.length < 256) : f.wf = true := by
  refine decide_eq_true (show f.payload.length ≤ f.format.maxLen from ?_)
  cases f.format <;> simp only [Format.maxLen, Config.shortLimit, Config.maxPayload] <;> omega

/-- An empty frame of either format is accepted exactly with the CRC of nothing. -/
theorem decodeBuffer_empty_eq_accept_iff (fmt : Format) (c : Half) (t : Byte) (mode : ErrMode) (p : List Byte)
    (n : Nat) :
    decodeBuffer (encodeFrame { format := fmt, payload := [], crc := c, term := t }) mode = .accept p n ↔
      c = 0x0000#16 ∧ t = 0x03#8 ∧ p = [] ∧ n = frameSize fmt 0 := by
  rw [decodeBuffer_encodeFrame_eq_accept_iff (wf_of_length_lt_256 (by simp)), eq_comm (a := crcOf _)]
  simp only [show crcOf [] = 0x0000#16 from rfl, frameTotal, List.length_nil]

/-- Settles O25: DECODE judges any well-formed frame; ENCODE's choice of format is `formatFor`. -/
theorem decodeAcceptsNonCanonical : Obligations.DecodeAcceptsNonCanonical := by
  unfold Obligations.DecodeAcceptsNonCanonical
  refine ⟨fun p mode hp => ?longAccepted, fun p q hp hq => ?longNotEncoded,
    decodeBuffer_empty_eq_accept_iff .short, decodeBuffer_empty_eq_accept_iff .long⟩
  case longAccepted =>
    rw [decodeBuffer_encodeFrame_eq_accept_iff (wf_of_length_lt_256 hp)]
    refine ⟨rfl, rfl, rfl, ?_⟩
    simp only [frameTotal, frameSize, Format.headerSize, Config.hdrSizeLong, Config.footerSize]
    omega
  case longNotEncoded =>
    obtain ⟨⟨-, hlim⟩, heq⟩ := (encodePayload_eq_frame_iff q _).mp hq
    have hframe := encodeFrame_injective_of_wf (wf_of_length_lt_256 hp) (frameFor_wf hlim) heq
    have hpayload : p = q := congrArg Frame.payload hframe
    have hformat : Format.long = formatFor q.length := congrArg Frame.format hframe
    rw [← hpayload, formatFor_of_lt hp] at hformat
    cases hformat

end Sys2Proof.Machine

/-! PROOFS, 41_framer.md and 42_deframer.md. One step of each unit said once: which byte it moves, what becomes of
the registers of its unit (R97 to R104, R122 to R130), and that it looks at its own side of the state only
(20_memory.md R43; 60_exceptions.md R161). -/

namespace Sys2Proof.Machine

/-! ### One step of TXF -/

/-- The phases of TXF whose step emits a byte (41_framer.md R99 to R104). -/
def TxPhase.emits : TxPhase → Bool
  | .idle | .check => false
  | .mark | .lenh | .lenl | .pay | .crch | .crcl | .term => true

/-- The byte that TXF emits in its next step. -/
def txByte (s : State) : Byte :=
  match s.tx.phase with
  | .idle | .check => 0
  | .mark => (formatFor s.tx.len).marker
  | .lenh => lenHigh s.tx.len
  | .lenl => lenLow s.tx.len
  | .pay => txpayByte s s.tx.cnt.toNat
  | .crch => hiByte s.tx.crc
  | .crcl => loByte s.tx.crc
  | .term => 0x03#8

/-- The registers of TXF once a byte has been emitted in their phase. -/
def txAdvance (b : Byte) (r : TxRegs) : TxRegs :=
  match r.phase with
  | .idle | .check => r
  | .mark => { r with pos := r.pos + 1, phase := if r.len < 256 then .lenl else .lenh }
  | .lenh => { r with pos := r.pos + 1, phase := .lenl }
  | .lenl => { r with pos := r.pos + 1, phase := .pay }
  | .pay => { r with
      pos := r.pos + 1, cnt := r.cnt + 1, crc := crcUpdate r.crc b
      phase := if (r.cnt + 1).toNat = r.len then .crch else .pay }
  | .crch => { r with pos := r.pos + 1, phase := .crcl }
  | .crcl => { r with pos := r.pos + 1, phase := .term }
  | .term => { r with pos := r.pos + 1, flen := r.pos + 1, status := .ok, phase := .idle }

/-- The state after a step of TXF that emits. -/
def txEmitted (s : State) : State :=
  { s with
    tx := txAdvance (txByte s) s.tx
    txfrm := s.txfrm.write s.tx.pos.toNat (txByte s)
    txFree := if s.tx.phase = .pay ∧ s.txDisturbed = true then s.txFree + 1 else s.txFree }

/-- The registers of TXF after T_CHECK (41_framer.md R98). -/
def txChecked (r : TxRegs) : TxRegs :=
  if r.len = 0 then { r with status := .fault, cause := .empty, flen := 0, phase := .idle }
  else if 65536 ≤ r.len then { r with status := .fault, cause := .tooLong, flen := 0, phase := .idle }
  else { r with phase := .mark }

theorem txStep_check_eq {s : State} (hphase : s.tx.phase = .check) :
    txStep s = .next { s with tx := txChecked s.tx } := by
  rw [txStep_check hphase, txChecked]
  obtain hzero | hpos := Nat.eq_zero_or_pos s.tx.len
  · rw [hzero, encodeFault_zero, if_pos rfl]
    simp [raiseFault, raiseTx, hzero]
  · rw [if_neg (by omega)]
    obtain hlim | hlim := Nat.lt_or_ge s.tx.len 65536
    · rw [(encodeFault_eq_none_iff _).mpr ⟨hpos, hlim⟩, if_neg (by omega)]
      rfl
    · rw [encodeFault_of_limit_le hlim, if_pos hlim]
      rfl

theorem txStep_pay_next_iff {s t : State} (hphase : s.tx.phase = .pay) :
    txStep s = .next t ↔
      s.txpay.holds s.tx.cnt.toNat = true ∧ s.txfrm.holds s.tx.pos.toNat = true ∧ t = txEmitted s := by
  have hstep : txStep s = txPay s := by rw [txStep, hphase]
  rw [hstep, txPay]
  cases hin : s.txpay.holds s.tx.cnt.toNat with
  | false => simp
  | true =>
    cases hdist : s.txDisturbed <;>
      simp [emitThen_next, txReadDone, hdist, txPaid, updateAcc, setAcc, accOf, txEmitted, txAdvance, txByte, hphase]

/-- A step of TXF that emits needs the byte it writes, and in T_PAY the byte it reads. -/
theorem txStep_next_iff_of_emits {s t : State} (h : s.tx.phase.emits = true) :
    txStep s = .next t ↔
      (s.tx.phase = .pay → s.txpay.holds s.tx.cnt.toNat = true) ∧ s.txfrm.holds s.tx.pos.toNat = true ∧
      t = txEmitted s := by
  cases hphase : s.tx.phase with
  | idle | check => rw [hphase] at h; cases h
  | mark =>
    obtain hlt | hle := Nat.lt_or_ge s.tx.len 256
    · simp [txStep_mark_of_lt hphase hlt, emitThen_next, txGoto, txEmitted, txAdvance, txByte, hphase, hlt,
        formatFor_of_lt, Format.marker, Config.markerShort]
    · simp [txStep_mark_of_le hphase hle, emitThen_next, txGoto, txEmitted, txAdvance, txByte, hphase, hle,
        formatFor_of_le, Nat.not_lt.mpr hle, Format.marker, Config.markerLong]
  | lenh =>
    simp [txStep_lenh hphase, emitThen_next, txGoto, txEmitted, txAdvance, txByte, hphase, lenHigh_eq_ofNat]
  | lenl =>
    simp [txStep_lenl hphase, emitThen_next, txGoto, txEmitted, txAdvance, txByte, hphase, lenLow_eq_ofNat]
  | pay => simp [txStep_pay_next_iff hphase]
  | crch => simp [txStep_crch hphase, emitThen_next, txGoto, txEmitted, txAdvance, txByte, hphase]
  | crcl => simp [txStep_crcl hphase, emitThen_next, txGoto, txEmitted, txAdvance, txByte, hphase]
  | term => simp [txStep_term hphase, emitThen_next, txDone, txEmitted, txAdvance, txByte, hphase]

theorem txStep_of_emits {s : State} (h : s.tx.phase.emits = true)
    (hin : s.tx.phase = .pay → s.txpay.holds s.tx.cnt.toNat = true)
    (hout : s.txfrm.holds s.tx.pos.toNat = true) : txStep s = .next (txEmitted s) :=
  (txStep_next_iff_of_emits h).mpr ⟨hin, hout, rfl⟩

/-- Everything that a step of TXF can do. -/
theorem txStep_cases {s t : State} (h : txStep s = .next t) :
    (s.tx.phase = .idle ∧ t = s) ∨ (s.tx.phase = .check ∧ t = { s with tx := txChecked s.tx }) ∨
    (s.tx.phase.emits = true ∧ (s.tx.phase = .pay → s.txpay.holds s.tx.cnt.toNat = true) ∧
      s.txfrm.holds s.tx.pos.toNat = true ∧ t = txEmitted s) := by
  cases hemits : s.tx.phase.emits with
  | true => exact .inr (.inr ⟨rfl, (txStep_next_iff_of_emits hemits).mp h⟩)
  | false =>
    cases hphase : s.tx.phase with
    | idle =>
      rw [txStep_idle s hphase] at h
      cases h
      exact .inl ⟨rfl, rfl⟩
    | check =>
      rw [txStep_check_eq hphase] at h
      cases h
      exact .inr (.inl ⟨rfl, rfl⟩)
    | _ => rw [hphase] at hemits; cases hemits

/-! ### One step of RXD -/

/-- The steps of RXD that fetch a byte (42_deframer.md R122 to R124, R126 to R129). -/
def rxReads (r : RxRegs) : Bool :=
  match r.phase with
  | .idle | .size | .check => false
  | .mark => r.n != 0
  | .lenh | .lenl => r.pos.toNat < r.n
  | .pay | .crch | .crcl | .term => true

/-- The registers of RXD at the end of an operation that finds no frame (42_deframer.md R120). -/
def rxNoFrame (r : RxRegs) : RxRegs :=
  { r with status := .noFrame, cause := .noFault, consumed := 0, phase := .idle }

/-- The registers of RXD after the dispatch on its marker (42_deframer.md R122). -/
def rxMarked (b : Byte) (r : RxRegs) : RxRegs :=
  if b = 0x02#8 then { r with marker := 0x02#8, payidx := 2, phase := .lenl }
  else if b = 0x03#8 then { r with marker := 0x03#8, payidx := 3, phase := .lenh }
  else rxNoFrame { r with marker := b }

/-- The registers of RXD once a byte has been fetched in their phase. -/
def rxAdvance (b : Byte) (r : RxRegs) : RxRegs :=
  match r.phase with
  | .idle | .size | .check => r
  | .mark => rxMarked b { r with pos := r.pos + 1 }
  | .lenh => { r with pos := r.pos + 1, paylen := withHigh r.paylen b, phase := .lenl }
  | .lenl => { r with pos := r.pos + 1, paylen := withLow r.paylen b, phase := .size }
  | .pay => { r with
      pos := r.pos + 1, cnt := r.cnt + 1, crc := crcUpdate r.crc b
      phase := if r.cnt + 1 = r.paylen then .crch else .pay }
  | .crch => { r with pos := r.pos + 1, fcrc := withHigh r.fcrc b, phase := .crcl }
  | .crcl => { r with pos := r.pos + 1, fcrc := withLow r.fcrc b, phase := .term }
  | .term => { r with pos := r.pos + 1, term := b, phase := .check }

/-- The registers of RXD after D_SIZE (42_deframer.md R125). -/
def rxSized (r : RxRegs) : RxRegs :=
  let fs := r.payidx.toNat + r.paylen.toNat + 3
  if r.n < fs then rxNoFrame { r with fsize := BitVec.ofNat 17 fs, flags := r.flags ||| 0b0001#4 }
  else { r with
    fsize := BitVec.ofNat 17 fs, flags := r.flags ||| 0b0011#4
    phase := if r.paylen = 0 then .crch else .pay }

/-- The registers of RXD after D_CHECK (42_deframer.md R130). -/
def rxJudged (r : RxRegs) : RxRegs :=
  if r.crc = r.fcrc then
    if r.term = 0x03#8 then { r with
      flags := checkedFlags r, status := .accept, cause := .noFault, consumed := r.fsize, phase := .idle }
    else { r with
      flags := checkedFlags r, status := .fault, cause := .invalidTerminator, consumed := 0, phase := .idle }
  else if r.mode = .ignore then { r with
    flags := checkedFlags r, status := .discard, cause := .noFault, consumed := r.fsize, phase := .idle }
  else { r with
    flags := checkedFlags r, status := .fault, cause := .invalidCrc, consumed := 0, phase := .idle }

/-- The registers of RXD after a step that fetches no byte. -/
def rxSettle (r : RxRegs) : RxRegs :=
  match r.phase with
  | .mark | .lenh | .lenl => rxNoFrame r
  | .size => rxSized r
  | .check => rxJudged r
  | .idle | .pay | .crch | .crcl | .term => r

/-- The state after a step of RXD that fetches a byte. -/
def rxTaken (s : State) : State :=
  { s with
    rx := rxAdvance (rxbufByte s s.rx.pos.toNat) s.rx
    rxpay :=
      if s.rx.phase = .pay then s.rxpay.write s.rx.cnt.toNat (rxbufByte s s.rx.pos.toNat) else s.rxpay
    rxFree := if s.rxDisturbed then s.rxFree + 1 else s.rxFree }

theorem fetched_eq (s : State) :
    fetched s = { s with
      rx := { s.rx with pos := s.rx.pos + 1 }
      rxFree := if s.rxDisturbed then s.rxFree + 1 else s.rxFree } := by
  cases h : s.rxDisturbed <;> simp [fetched, rxReadDone, h]

/-- The marker dispatch, all nine rows together. -/
theorem exec_decodeMarker (b : Byte) (s : State) :
    exec (decodeMarker b) s = .next { s with rx := rxMarked b s.rx } := by
  by_cases hshort : b = 0x02#8
  · subst hshort
    rw [exec_decodeMarker_short]
    rfl
  · by_cases hlong : b = 0x03#8
    · subst hlong
      rw [exec_decodeMarker_long]
      rfl
    · rw [exec_decodeMarker_reserved hshort hlong, rxMarked, if_neg hshort, if_neg hlong]
      rfl

theorem rxStep_lenh {s : State} (run : Instr → State → Out) (hphase : s.rx.phase = .lenh) :
    rxStep run s = rxLenh s := by
  rw [rxStep, hphase]

theorem rxStep_lenl {s : State} (run : Instr → State → Out) (hphase : s.rx.phase = .lenl) :
    rxStep run s = rxLenl s := by
  rw [rxStep, hphase]

theorem rxStep_pay {s : State} (run : Instr → State → Out) (hphase : s.rx.phase = .pay) :
    rxStep run s = rxPay s := by
  rw [rxStep, hphase]

theorem rxStep_pay_next_iff {s t : State} (run : Instr → State → Out) (hphase : s.rx.phase = .pay) :
    rxStep run s = .next t ↔
      s.rxbuf.holds s.rx.pos.toNat = true ∧ s.rxpay.holds s.rx.cnt.toNat = true ∧ t = rxTaken s := by
  rw [rxStep_pay run hphase, rxPay, fetchThen_next]
  cases hout : s.rxpay.holds s.rx.cnt.toNat with
  | false => simp [hout]
  | true =>
    simp [hout, fetched_eq, rxPaid, updateAcc, setAcc, accOf, rxTaken, rxAdvance, hphase, eq_comm (a := t)]

/-- A step of RXD that fetches needs the byte it reads, and in D_PAY the byte it writes. -/
theorem rxStep_next_iff_of_reads {s t : State} (h : rxReads s.rx = true) :
    rxStep exec s = .next t ↔
      s.rxbuf.holds s.rx.pos.toNat = true ∧ (s.rx.phase = .pay → s.rxpay.holds s.rx.cnt.toNat = true) ∧
      t = rxTaken s := by
  cases hphase : s.rx.phase with
  | idle | size | check => rw [rxReads, hphase] at h; cases h
  | mark =>
    have hn : s.rx.n ≠ 0 := by simpa [rxReads, hphase] using h
    simp [rxStep_mark_of_nonempty exec hphase hn, fetchThen_next, exec_decodeMarker, fetched_eq, rxTaken,
      rxAdvance, hphase, eq_comm (a := t)]
  | lenh =>
    have hlt : s.rx.pos.toNat < s.rx.n := by simpa [rxReads, hphase] using h
    simp [rxStep_lenh exec hphase, rxLenh, headerThen_next, hlt, Nat.not_le.mpr hlt, fetched_eq, rxGoto, rxTaken,
      rxAdvance, hphase]
  | lenl =>
    have hlt : s.rx.pos.toNat < s.rx.n := by simpa [rxReads, hphase] using h
    simp [rxStep_lenl exec hphase, rxLenl, headerThen_next, hlt, Nat.not_le.mpr hlt, fetched_eq, rxGoto, rxTaken,
      rxAdvance, hphase]
  | pay => simp [rxStep_pay_next_iff exec hphase]
  | crch =>
    simp [rxStep_crch exec hphase, fetchThen_next, fetched_eq, rxGoto, rxTaken, rxAdvance, hphase, eq_comm (a := t)]
  | crcl =>
    simp [rxStep_crcl exec hphase, fetchThen_next, fetched_eq, rxGoto, rxTaken, rxAdvance, hphase, eq_comm (a := t)]
  | term =>
    simp [rxStep_term exec hphase, fetchThen_next, fetched_eq, rxGoto, rxTaken, rxAdvance, hphase, eq_comm (a := t)]

theorem rxStep_of_reads {s : State} (h : rxReads s.rx = true) (hin : s.rxbuf.holds s.rx.pos.toNat = true)
    (hout : s.rx.phase = .pay → s.rxpay.holds s.rx.cnt.toNat = true) : rxStep exec s = .next (rxTaken s) :=
  (rxStep_next_iff_of_reads h).mpr ⟨hin, hout, rfl⟩

theorem rxJudged_of_valid {r : RxRegs} (hcrc : r.crc = r.fcrc) (hterm : r.term = 0x03#8) :
    rxJudged r = { r with
      flags := checkedFlags r, status := .accept, cause := .noFault, consumed := r.fsize, phase := .idle } := by
  rw [rxJudged, if_pos hcrc, if_pos hterm]

theorem rxJudged_of_term_ne {r : RxRegs} (hcrc : r.crc = r.fcrc) (hterm : r.term ≠ 0x03#8) :
    rxJudged r = { r with
      flags := checkedFlags r, status := .fault, cause := .invalidTerminator, consumed := 0, phase := .idle } := by
  rw [rxJudged, if_pos hcrc, if_neg hterm]

theorem rxJudged_ignore_of_crc_ne {r : RxRegs} (hcrc : r.crc ≠ r.fcrc) (hmode : r.mode = .ignore) :
    rxJudged r = { r with
      flags := checkedFlags r, status := .discard, cause := .noFault, consumed := r.fsize, phase := .idle } := by
  rw [rxJudged, if_neg hcrc, if_pos hmode]

theorem rxJudged_raise_of_crc_ne {r : RxRegs} (hcrc : r.crc ≠ r.fcrc) (hmode : r.mode = .raise) :
    rxJudged r = { r with
      flags := checkedFlags r, status := .fault, cause := .invalidCrc, consumed := 0, phase := .idle } := by
  rw [rxJudged, if_neg hcrc, if_neg (by simp [hmode])]

theorem rxVerdict_withCheckedFlags (s : State) :
    rxVerdict s.rx (withCheckedFlags s) = { s with rx := rxJudged s.rx } := by
  by_cases hcrc : s.rx.crc = s.rx.fcrc
  · by_cases hterm : s.rx.term = 0x03#8
    · rw [rxVerdict_of_valid hcrc hterm, rxJudged_of_valid hcrc hterm]; rfl
    · rw [rxVerdict_of_term_ne hcrc hterm, rxJudged_of_term_ne hcrc hterm]; rfl
  · cases hmode : s.rx.mode with
    | ignore => rw [rxVerdict_ignore_of_crc_ne hcrc hmode, rxJudged_ignore_of_crc_ne hcrc hmode]; rfl
    | raise => rw [rxVerdict_raise_of_crc_ne hcrc hmode, rxJudged_raise_of_crc_ne hcrc hmode]; rfl

theorem rxStep_size_eq {s : State} (run : Instr → State → Out) (hphase : s.rx.phase = .size) :
    rxStep run s = .next { s with rx := rxSized s.rx } := by
  obtain hlt | hle := Nat.lt_or_ge s.rx.n (s.rx.payidx.toNat + s.rx.paylen.toNat + 3)
  · rw [rxStep_size_of_incomplete run hphase hlt, rxSized, if_pos hlt]
    rfl
  · rw [rxStep_size_of_complete run hphase hle, rxSized, if_neg (Nat.not_lt.mpr hle)]
    rfl

/-- A step of RXD that fetches no byte changes registers only, and never stops. -/
theorem rxStep_of_not_reads {s : State} (h : rxReads s.rx = false) :
    rxStep exec s = .next { s with rx := rxSettle s.rx } := by
  cases hphase : s.rx.phase with
  | idle => simp [rxStep_idle exec s hphase, rxSettle, hphase]
  | mark =>
    have hn : s.rx.n = 0 := by simpa [rxReads, hphase] using h
    simp [rxStep_mark_of_empty exec hphase hn, rxSettle, hphase, rxNoFrame, rxFinish]
  | lenh =>
    have hle : s.rx.n ≤ s.rx.pos.toNat := by simpa [rxReads, hphase] using h
    simp [rxStep_lenh exec hphase, rxLenh, headerThen_next, hle, rxSettle, hphase, rxNoFrame, rxFinish]
  | lenl =>
    have hle : s.rx.n ≤ s.rx.pos.toNat := by simpa [rxReads, hphase] using h
    simp [rxStep_lenl exec hphase, rxLenl, headerThen_next, hle, rxSettle, hphase, rxNoFrame, rxFinish]
  | size => rw [rxStep_size_eq exec hphase, rxSettle, hphase]
  | check => rw [rxStep_check exec hphase, rxVerdict_withCheckedFlags, rxSettle, hphase]
  | pay | crch | crcl | term => rw [rxReads, hphase] at h; cases h

/-- Everything that a step of RXD can do. -/
theorem rxStep_cases {s t : State} (h : rxStep exec s = .next t) :
    (rxReads s.rx = false ∧ t = { s with rx := rxSettle s.rx }) ∨
    (rxReads s.rx = true ∧ s.rxbuf.holds s.rx.pos.toNat = true ∧
      (s.rx.phase = .pay → s.rxpay.holds s.rx.cnt.toNat = true) ∧ t = rxTaken s) := by
  cases hreads : rxReads s.rx with
  | false =>
    rw [rxStep_of_not_reads hreads] at h
    cases h
    exact .inl ⟨rfl, rfl⟩
  | true => exact .inr ⟨rfl, (rxStep_next_iff_of_reads hreads).mp h⟩

/-! ### A unit's step looks at its own side of the state and changes nothing else -/

/-- `v` with the TXF side of `s`: its registers, its two buffers and its notes. -/
def State.withTxOf (v s : State) : State :=
  { v with tx := s.tx, txpay := s.txpay, txfrm := s.txfrm, txDisturbed := s.txDisturbed, txFree := s.txFree }

/-- `v` with the RXD side of `s`. -/
def State.withRxOf (v s : State) : State :=
  { v with rx := s.rx, rxbuf := s.rxbuf, rxpay := s.rxpay, rxDisturbed := s.rxDisturbed, rxFree := s.rxFree }

/-- A step of TXF goes the same way whatever the rest of the state is. -/
theorem txStep_withTxOf {s t : State} (h : txStep s = .next t) (v : State) :
    txStep (v.withTxOf s) = .next (v.withTxOf t) := by
  obtain ⟨hphase, rfl⟩ | ⟨hphase, rfl⟩ | ⟨hemits, hin, hout, rfl⟩ := txStep_cases h
  · exact txStep_idle _ hphase
  · exact txStep_check_eq (s := v.withTxOf s) hphase
  · exact txStep_of_emits (s := v.withTxOf s) hemits hin hout

theorem rxStep_withRxOf {s t : State} (h : rxStep exec s = .next t) (v : State) :
    rxStep exec (v.withRxOf s) = .next (v.withRxOf t) := by
  obtain ⟨hreads, rfl⟩ | ⟨hreads, hin, hout, rfl⟩ := rxStep_cases h
  · exact rxStep_of_not_reads (s := v.withRxOf s) hreads
  · exact rxStep_of_reads (s := v.withRxOf s) hreads hin hout

theorem txStep_eq_withTxOf {s t : State} (h : txStep s = .next t) : t = s.withTxOf t := by
  have hself : txStep s = .next (s.withTxOf t) := txStep_withTxOf h s
  rw [h] at hself
  exact Host.Outcome.next.inj hself

theorem rxStep_eq_withRxOf {s t : State} (h : rxStep exec s = .next t) : t = s.withRxOf t := by
  have hself : rxStep exec s = .next (s.withRxOf t) := rxStep_withRxOf h s
  rw [h] at hself
  exact Host.Outcome.next.inj hself

theorem txStep_inputs_eq {s t : State} (h : txStep s = .next t) :
    t.txpay = s.txpay ∧ t.txDisturbed = s.txDisturbed := by
  obtain ⟨-, rfl⟩ | ⟨-, rfl⟩ | ⟨-, -, -, rfl⟩ := txStep_cases h <;> exact ⟨rfl, rfl⟩

theorem rxStep_inputs_eq {s t : State} (h : rxStep exec s = .next t) :
    t.rxbuf = s.rxbuf ∧ t.rxDisturbed = s.rxDisturbed := by
  obtain ⟨-, rfl⟩ | ⟨-, -, -, rfl⟩ := rxStep_cases h <;> exact ⟨rfl, rfl⟩

theorem txStep_txfrm_read {s t : State} (h : txStep s = .next t) {i : Nat} (hi : i ≠ s.tx.pos.toNat) :
    t.txfrm.read .txfrm i = s.txfrm.read .txfrm i := by
  obtain ⟨-, rfl⟩ | ⟨-, rfl⟩ | ⟨-, -, -, rfl⟩ := txStep_cases h
  · rfl
  · rfl
  · exact Memory.read_write_ne _ _ _ _ _ hi

theorem rxStep_rxpay_read {s t : State} (h : rxStep exec s = .next t) {i : Nat} (hi : i ≠ s.rx.cnt.toNat) :
    t.rxpay.read .rxpay i = s.rxpay.read .rxpay i := by
  obtain ⟨-, rfl⟩ | ⟨-, -, -, rfl⟩ := rxStep_cases h
  · rfl
  · rw [rxTaken]
    split
    · exact Memory.read_write_ne _ _ _ _ _ hi
    · rfl

/-- Settles O52: a step of a unit replaces its own side of the state only, and on that side its input stays. -/
theorem unitsKeepToTheirFootprint : Obligations.UnitsKeepToTheirFootprint := by
  unfold Obligations.UnitsKeepToTheirFootprint
  constructor
  · intro s t h
    obtain ⟨hpay, hdist⟩ := txStep_inputs_eq h
    have hside := txStep_eq_withTxOf h
    refine ⟨?_, hdist, fun i hi => txStep_txfrm_read h hi⟩
    rw [hside]
    exact ⟨rfl, hpay, rfl, rfl, rfl, rfl, rfl, rfl⟩
  · intro s t h
    obtain ⟨hbuf, hdist⟩ := rxStep_inputs_eq h
    have hside := rxStep_eq_withRxOf h
    refine ⟨?_, hdist, fun i hi => rxStep_rxpay_read h hi⟩
    rw [hside]
    exact ⟨rfl, rfl, rfl, hbuf, rfl, rfl, rfl, rfl⟩

/-- Settles O53: either order ends in the TXF side of the one step, the RXD side of the other, and the rest as it
was. -/
theorem unitStepsCommute : Obligations.UnitStepsCommute := by
  unfold Obligations.UnitStepsCommute
  intro s a b ha hb
  refine ⟨a.withRxOf b, ?_, ?_⟩
  · have hsame : a.withRxOf s = a := by rw [txStep_eq_withTxOf ha]; rfl
    have hstep := rxStep_withRxOf hb a
    rwa [hsame] at hstep
  · have hsame : b.withTxOf s = b := by rw [rxStep_eq_withRxOf hb]; rfl
    have hstep := txStep_withTxOf ha b
    have hmeet : b.withTxOf a = a.withRxOf b := by
      rw [txStep_eq_withTxOf ha, rxStep_eq_withRxOf hb]
      rfl
    rwa [hsame, hmeet] at hstep

end Sys2Proof.Machine

/-! PROOFS, 41_framer.md, 42_deframer.md and 60_exceptions.md. The turns of the two units as the rules state them
(R102, R122 to R124, R126), with free values in a disturbed operation (93_implementation_defined.md U4), the faults
they record (R140, R144), and whose turn it is (R161). -/

namespace Sys2Proof.Machine

/-! ### Turns of the units -/

theorem step_txf_emitted {s : State} {rest : List Turn} (hturn : s.agenda = .unit .txf :: rest)
    (hemits : s.tx.phase.emits = true) (hin : s.tx.phase = .pay → s.txpay.holds s.tx.cnt.toNat = true)
    (hout : s.txfrm.holds s.tx.pos.toNat = true) : step s = .next (txEmitted { s with agenda := rest }) := by
  rw [step_txf_turn hturn]
  exact txStep_of_emits (s := { s with agenda := rest }) hemits hin hout

theorem step_rxd_taken {s : State} {rest : List Turn} (hturn : s.agenda = .unit .rxd :: rest)
    (hreads : rxReads s.rx = true) (hin : s.rxbuf.holds s.rx.pos.toNat = true)
    (hout : s.rx.phase = .pay → s.rxpay.holds s.rx.cnt.toNat = true) :
    step s = .next (rxTaken { s with agenda := rest }) := by
  rw [step_rxd_turn hturn]
  exact rxStep_of_reads (s := { s with agenda := rest }) hreads hin hout

theorem step_rxd_settled {s : State} {rest : List Turn} (hturn : s.agenda = .unit .rxd :: rest)
    (hreads : rxReads s.rx = false) : step s = .next { s with agenda := rest, rx := rxSettle s.rx } := by
  rw [step_rxd_turn hturn]
  exact rxStep_of_not_reads (s := { s with agenda := rest }) hreads

theorem txEmitted_of_pay {s : State} {b : Byte} (hphase : s.tx.phase = .pay)
    (hb : txpayByte s s.tx.cnt.toNat = b) :
    txEmitted s = { s with
      txFree := if s.txDisturbed = true then s.txFree + 1 else s.txFree
      txfrm := s.txfrm.write s.tx.pos.toNat b
      tx := { s.tx with
        pos := s.tx.pos + 1, cnt := s.tx.cnt + 1, crc := crcUpdate s.tx.crc b
        phase := if (s.tx.cnt + 1).toNat = s.tx.len then .crch else .pay } } := by
  simp [txEmitted, txAdvance, txByte, hphase, hb]

/-- What RXD reads, with the registers it reads it into (42_deframer.md R120). -/
theorem rxTaken_eq {s : State} {b : Byte} (hphase : s.rx.phase ≠ .pay)
    (hb : rxbufByte s s.rx.pos.toNat = b) :
    rxTaken s = { s with
      rxFree := if s.rxDisturbed = true then s.rxFree + 1 else s.rxFree
      rx := rxAdvance b s.rx } := by
  simp [rxTaken, hphase, hb]

theorem rxTaken_of_pay {s : State} {b : Byte} (hphase : s.rx.phase = .pay)
    (hb : rxbufByte s s.rx.pos.toNat = b) :
    rxTaken s = { s with
      rxFree := if s.rxDisturbed = true then s.rxFree + 1 else s.rxFree
      rxpay := s.rxpay.write s.rx.cnt.toNat b
      rx := { s.rx with
        pos := s.rx.pos + 1, cnt := s.rx.cnt + 1, crc := crcUpdate s.rx.crc b
        phase := if s.rx.cnt + 1 = s.rx.paylen then .crch else .pay } } := by
  simp [rxTaken, rxAdvance, hphase, hb]

theorem txpayByte_undisturbed {s : State} (h : s.txDisturbed = false) (i : Nat) :
    txpayByte s i = s.txpay.read .txpay i := by
  simp [txpayByte, h]

theorem txpayByte_disturbed {s : State} (h : s.txDisturbed = true) (i : Nat) :
    txpayByte s i = Config.disturbedByte .txf s.txFree := by
  simp [txpayByte, h]

theorem rxbufByte_undisturbed {s : State} (h : s.rxDisturbed = false) (i : Nat) :
    rxbufByte s i = s.rxbuf.read .rxbuf i := by
  simp [rxbufByte, h]

theorem rxbufByte_disturbed {s : State} (h : s.rxDisturbed = true) (i : Nat) :
    rxbufByte s i = Config.disturbedByte .rxd s.rxFree := by
  simp [rxbufByte, h]

/-! ### The statements about one turn -/

/-- Settles O19: T_PAY emits the byte that it reads, and an undisturbed read is TXPAY's own byte. -/
theorem txfPayloadStep : Obligations.TxfPayloadStep := by
  unfold Obligations.TxfPayloadStep
  intro s rest hturn hphase hclean hin hout
  have hemits : s.tx.phase.emits = true := by rw [hphase]; rfl
  rw [step_txf_emitted hturn hemits (fun _ => hin) hout,
    txEmitted_of_pay (s := { s with agenda := rest }) hphase (txpayByte_undisturbed hclean _)]
  simp [hclean]

/-- Settles O32: the header step fetches while RX_POS is below RX_N, and otherwise ends the operation. -/
theorem rxdLengthSteps : Obligations.RxdLengthSteps := by
  unfold Obligations.RxdLengthSteps
  intro s rest hturn hphase
  refine ⟨fun hle => ?ended, fun hlt hclean hin => ?fetched⟩
  case ended =>
    have hreads : rxReads s.rx = false := by
      obtain hphase | hphase := hphase <;> simp [rxReads, hphase, hle]
    have hsettle : rxSettle s.rx = rxNoFrame s.rx := by
      obtain hphase | hphase := hphase <;> simp [rxSettle, hphase]
    rw [step_rxd_settled hturn hreads, hsettle]
    rfl
  case fetched =>
    intro b
    have hstep (hne : s.rx.phase ≠ .pay) (hreads : rxReads s.rx = true) :
        step s = .next { s with agenda := rest, rx := rxAdvance b s.rx } := by
      rw [step_rxd_taken hturn hreads hin (fun hpay => absurd hpay hne),
        rxTaken_eq (s := { s with agenda := rest }) hne (rxbufByte_undisturbed hclean _)]
      simp [hclean, b]
    refine ⟨fun hphase => ?_, fun hphase => ?_⟩
    · rw [hstep (by simp [hphase]) (by simp [rxReads, hphase, hlt]), rxAdvance, hphase]
      rfl
    · rw [hstep (by simp [hphase]) (by simp [rxReads, hphase, hlt]), rxAdvance, hphase]
      rfl

/-- Settles O34: D_PAY writes the byte that it fetches, and an undisturbed fetch is RXBUF's own byte. -/
theorem rxdPayloadStep : Obligations.RxdPayloadStep := by
  unfold Obligations.RxdPayloadStep
  intro s rest hturn hphase hclean hin hout
  have hreads : rxReads s.rx = true := by simp [rxReads, hphase]
  rw [step_rxd_taken hturn hreads hin (fun _ => hout),
    rxTaken_of_pay (s := { s with agenda := rest }) hphase (rxbufByte_undisturbed hclean _)]
  simp [hclean]

/-- Settles O44: the steps are those of an undisturbed operation, with the free value for the byte read. -/
theorem disturbedReadsAreFree : Obligations.DisturbedReadsAreFree := by
  unfold Obligations.DisturbedReadsAreFree
  constructor
  · intro s rest hturn hphase hdist hin hout b
    have hemits : s.tx.phase.emits = true := by rw [hphase]; rfl
    rw [step_txf_emitted hturn hemits (fun _ => hin) hout,
      txEmitted_of_pay (s := { s with agenda := rest }) hphase (txpayByte_disturbed hdist _)]
    simp [hdist, b]
  · intro s rest hturn hdist hin b read
    have hstep (hne : s.rx.phase ≠ .pay) (hreads : rxReads s.rx = true) :
        step s = .next { s with agenda := rest, rxFree := s.rxFree + 1, rx := rxAdvance b s.rx } := by
      rw [step_rxd_taken hturn hreads hin (fun hpay => absurd hpay hne),
        rxTaken_eq (s := { s with agenda := rest }) hne (rxbufByte_disturbed hdist _)]
      simp [hdist, b]
    refine ⟨fun hphase hn => ?mark, fun hphase hlt => ?lenh, fun hphase hlt => ?lenl, fun hphase hout => ?pay,
      fun hphase => ?crch, fun hphase => ?crcl, fun hphase => ?term⟩
    case mark =>
      rw [exec_decodeMarker, hstep (by simp [hphase]) (by simp [rxReads, hphase, hn])]
      simp [rxAdvance, hphase, read]
    case pay =>
      have hreads : rxReads s.rx = true := by simp [rxReads, hphase]
      rw [step_rxd_taken hturn hreads hin (fun _ => hout),
        rxTaken_of_pay (s := { s with agenda := rest }) hphase (rxbufByte_disturbed hdist _)]
      simp [hdist, b, read]
    case lenh => rw [hstep (by simp [hphase]) (by simp [rxReads, hphase, hlt]), rxAdvance, hphase]; rfl
    case lenl => rw [hstep (by simp [hphase]) (by simp [rxReads, hphase, hlt]), rxAdvance, hphase]; rfl
    case crch => rw [hstep (by simp [hphase]) (by simp [rxReads, hphase]), rxAdvance, hphase]; rfl
    case crcl => rw [hstep (by simp [hphase]) (by simp [rxReads, hphase]), rxAdvance, hphase]; rfl
    case term => rw [hstep (by simp [hphase]) (by simp [rxReads, hphase]), rxAdvance, hphase]

/-- Settles O30: each arm of the dispatch is one record update. -/
theorem markerRowsDispatch : Obligations.MarkerRowsDispatch := by
  unfold Obligations.MarkerRowsDispatch
  exact fun s => ⟨rfl, rfl, fun b => ⟨rfl, rfl, rfl, rfl, rfl, rfl, rfl⟩⟩

/-! ### Faults (60_exceptions.md R140, R144) -/

theorem txAdvance_status_ne_fault {r : TxRegs} (h : r.status ≠ .fault) (b : Byte) :
    (txAdvance b r).status ≠ .fault := by
  unfold txAdvance
  split
  case h_9 => exact TxStatus.noConfusion
  all_goals exact h

theorem rxAdvance_status_ne_fault {r : RxRegs} (h : r.status ≠ .fault) (b : Byte) :
    (rxAdvance b r).status ≠ .fault := by
  unfold rxAdvance
  split
  case h_4 =>
    unfold rxMarked
    split_ifs
    · exact h
    · exact h
    · exact RxStatus.noConfusion
  all_goals exact h

/-- T_CHECK faults on the length alone. -/
theorem txChecked_fault {r : TxRegs} (h : r.status ≠ .fault) (hfault : (txChecked r).status = .fault) :
    r.len = 0 ∧ (txChecked r).cause = .empty ∨ 65536 ≤ r.len ∧ (txChecked r).cause = .tooLong := by
  unfold txChecked at hfault ⊢
  split_ifs at hfault ⊢ with hzero hlim
  · exact .inl ⟨hzero, rfl⟩
  · exact .inr ⟨hlim, rfl⟩
  · exact absurd hfault h

theorem rxNoFrame_status (r : RxRegs) : (rxNoFrame r).status = .noFrame := rfl

theorem rxSized_status_ne_fault {r : RxRegs} (h : r.status ≠ .fault) : (rxSized r).status ≠ .fault := by
  unfold rxSized
  dsimp only
  split
  · rw [rxNoFrame_status]
    exact RxStatus.noConfusion
  · exact h

/-- D_CHECK faults on the CRC in mode raise, or else on the terminator. -/
theorem rxJudged_fault {r : RxRegs} (hfault : (rxJudged r).status = .fault) :
    r.crc ≠ r.fcrc ∧ r.mode = .raise ∧ (rxJudged r).cause = .invalidCrc ∨
      r.crc = r.fcrc ∧ r.term ≠ 0x03#8 ∧ (rxJudged r).cause = .invalidTerminator := by
  unfold rxJudged at hfault ⊢
  split_ifs at hfault ⊢ with hcrc hterm hmode
  · exact .inr ⟨hcrc, hterm, rfl⟩
  · have hraise : r.mode = .raise := by
      cases hm : r.mode
      · exact absurd hm hmode
      · rfl
    exact .inl ⟨hcrc, hraise, rfl⟩

/-- Among the steps that fetch no byte only D_CHECK records a fault. -/
theorem phase_of_rxSettle_fault {r : RxRegs} (h : r.status ≠ .fault) (hfault : (rxSettle r).status = .fault) :
    r.phase = .check := by
  cases hphase : r.phase with
  | check => rfl
  | size => rw [rxSettle, hphase] at hfault; exact absurd hfault (rxSized_status_ne_fault h)
  | mark | lenh | lenl => rw [rxSettle, hphase] at hfault; cases hfault
  | idle | pay | crch | crcl | term => rw [rxSettle, hphase] at hfault; exact absurd hfault h

/-- Settles O47: no step that moves a byte records a fault, so what is left are the two checks. -/
theorem faultsArePrecise : Obligations.FaultsArePrecise := by
  unfold Obligations.FaultsArePrecise
  constructor
  · intro s t h hbefore hafter
    obtain ⟨-, rfl⟩ | ⟨hphase, rfl⟩ | ⟨-, -, -, rfl⟩ := txStep_cases h
    · exact absurd hafter hbefore
    · exact ⟨hphase, txChecked_fault hbefore hafter, rfl⟩
    · exact absurd hafter (txAdvance_status_ne_fault hbefore _)
  · intro s t h hbefore hafter
    obtain ⟨-, rfl⟩ | ⟨-, -, -, rfl⟩ := rxStep_cases h
    · have hphase := phase_of_rxSettle_fault hbefore hafter
      have hjudged : rxSettle s.rx = rxJudged s.rx := by rw [rxSettle, hphase]
      rw [hjudged] at hafter ⊢
      exact ⟨hphase, rxJudged_fault hafter⟩
    · exact absurd hafter (rxAdvance_status_ne_fault hbefore _)

/-- Settles O46: a raise is one record update, and the kinds are a table. -/
theorem raiseRecordsTheFault : Obligations.RaiseRecordsTheFault := by
  unfold Obligations.RaiseRecordsTheFault
  exact fun s => ⟨rfl, rfl, rfl, rfl, rfl, rfl, rfl, rfl⟩

/-! ### Whose turn it is (60_exceptions.md R161) -/

theorem step_currentInstr {s : State} {i : Instr} (h : currentInstr s = some i) : step s = exec i (atInstr s) := by
  unfold currentInstr at h
  unfold step atInstr
  cases hturn : nextTurn s with
  | host a => rw [hturn] at h; cases h; rfl
  | op key n => rw [hturn] at h; cases h; rfl
  | reset => rw [hturn] at h; cases h
  | unit u =>
    cases u with
    | txf => rw [hturn] at h; cases h
    | rxd =>
      rw [hturn] at h
      obtain ⟨⟨hphase, hn, hroom⟩, hi⟩ := Option.ite_none_right_eq_some.mp h
      cases hi
      rw [takeTurn_rxd, rxStep_mark_of_nonempty exec (s := popTurn s) hphase hn]
      exact if_pos hroom

/-- Settles O50: a turn of the host or of an operation is `exec` by definition, and D_MARK's dispatch is `exec` of
the row behind its fetch. -/
theorem stepRunsTheInstruction : Obligations.StepRunsTheInstruction := by
  unfold Obligations.StepRunsTheInstruction
  refine ⟨fun s i h => step_currentInstr h, fun s a rest hturn => step_turn s (.host a) rest hturn,
    fun s key n rest hturn => step_turn s (.op key n) rest hturn, ?marker⟩
  intro s rest i hturn hphase hn hclean hroom hi
  have hrow : decodeMarker (s.rxbuf.read .rxbuf s.rx.pos.toNat) = i := Except.ok.inj hi
  rw [← hrow]
  exact step_rxd_fetches hturn hclean hroom
    (rxStep_mark_of_nonempty (s := { s with agenda := rest }) exec hphase hn)

theorem txBusy_eq_true_iff {s : State} : txBusy s = true ↔ s.tx.phase ≠ .idle := by
  simp [txBusy]

theorem rxBusy_eq_true_iff {s : State} : rxBusy s = true ↔ s.rx.phase ≠ .idle := by
  simp [rxBusy]

theorem txBusy_eq_false_iff {s : State} : txBusy s = false ↔ s.tx.phase = .idle := by
  simp [txBusy]

theorem rxBusy_eq_false_iff {s : State} : rxBusy s = false ↔ s.rx.phase = .idle := by
  simp [rxBusy]

/-- Settles O51: with an empty agenda the turn is the busy unit's, and an idle RXD takes no step. -/
theorem busyUnitsRunOn : Obligations.BusyUnitsRunOn := by
  unfold Obligations.BusyUnitsRunOn
  intro s hempty
  rw [step_no_turn s hempty]
  refine ⟨fun htx => ?_, fun htx hrx => ?_, fun htx hrx => ?_⟩
  · rw [txBusy_eq_true_iff.mpr htx]
    rfl
  · rw [txBusy_eq_false_iff.mpr htx]
    rfl
  · rw [txBusy_eq_false_iff.mpr htx]
    exact rxStep_idle exec s hrx

end Sys2Proof.Machine

/-! PROOFS, 60_exceptions.md. The host's actions (R153 to R158): POLL, READ, the two WRITEs, and the starts that are
not taken or do not fit. -/

namespace Sys2Proof.Machine

/-! ### The host's actions as calls of their meanings -/

theorem exec_poll (u : CodecUnit) (s : State) :
    exec (.poll u) s = .next (answerHost (if busy u s then 1 else 0) s) := rfl

theorem exec_read_reg (r : Reg) (s : State) : exec (.read (.reg r)) s = .next (answerHost (regValue r s) s) := rfl

theorem exec_read_txfrm (i : Nat) (s : State) : exec (.read (.txfrm i)) s = readOutput .txfrm s.txfrm i s := rfl

theorem exec_read_rxpay (i : Nat) (s : State) : exec (.read (.rxpay i)) s = readOutput .rxpay s.rxpay i s := rfl

theorem exec_writeTxpay (i : Nat) (bytes : List Byte) (s : State) :
    exec (.writeTxpay i bytes) s = execWriteTxpay i bytes s := rfl

theorem exec_writeRxbuf (i : Nat) (bytes : List Byte) (s : State) :
    exec (.writeRxbuf i bytes) s = execWriteRxbuf i bytes s := rfl

/-! ### POLL and READ (60_exceptions.md R155, R156) -/

theorem readOutput_of_holds {sp : Space} {m : Memory} {i : Nat} (h : m.holds i = true) (s : State) :
    readOutput sp m i s = .next (answerHost (m.read sp i).toNat s) :=
  readOutput_next.mpr ⟨h, rfl⟩

theorem readOutput_of_not_holds {sp : Space} {m : Memory} {i : Nat} (h : m.holds i = false) (s : State) :
    readOutput sp m i s = .fault (.noSuchByte sp i) := by
  simp [readOutput, h]

theorem modeCode_toNat (m : ErrMode) : (modeCode m).toNat = if m = .ignore then 0 else 1 := by
  cases m <;> rfl

theorem rxStatus_code_le (st : RxStatus) : st.code.toNat ≤ 5 := by
  cases st <;> decide

theorem txCause_code_le (c : TxCause) : c.code.toNat ≤ 2 := by
  cases c <;> decide

theorem rxCause_code_cases (c : RxCause) : c.code.toNat = 0 ∨ c.code.toNat = 3 ∨ c.code.toNat = 4 := by
  cases c <;> decide

/-- Settles O40: the answer is `busy`, which is the comparison of the phase with idle. -/
theorem pollAnswersBusy : Obligations.PollAnswersBusy := by
  unfold Obligations.PollAnswersBusy
  intro s
  rw [exec_poll, exec_poll]
  constructor
  · by_cases hphase : s.tx.phase = .idle <;> simp [busy, txBusy, hphase, answerHost]
  · by_cases hphase : s.rx.phase = .idle <;> simp [busy, rxBusy, hphase, answerHost]

/-- Settles O41: the answer to a register is `regValue` of it, and to an output byte the byte if there is one. -/
theorem readAnswersWithoutEffect : Obligations.ReadAnswersWithoutEffect := by
  unfold Obligations.ReadAnswersWithoutEffect
  intro s answered
  have hmode : answered .rxMode (if s.rx.mode = .ignore then 0 else 1) := by
    rw [← modeCode_toNat]
    exact exec_read_reg .rxMode s
  refine ⟨rfl, rfl, rfl, rfl, rfl, rfl, rfl, rfl, hmode, rfl, rfl, rfl, rfl, rfl, rfl, rfl, rfl, rfl, rfl, rfl, rfl,
    rfl, fun i hi => ?_, fun i hi => ?_⟩
  · rw [exec_read_txfrm, readOutput_of_holds hi]
    rfl
  · rw [exec_read_rxpay, readOutput_of_holds hi]
    rfl

/-- Settles O42: the codes are a table, and a READ answers a code of it. -/
theorem statusAndCauseCodes : Obligations.StatusAndCauseCodes := by
  unfold Obligations.StatusAndCauseCodes
  refine ⟨⟨rfl, rfl, rfl, rfl⟩, ⟨rfl, rfl, rfl, rfl, rfl, rfl⟩, ⟨rfl, rfl, rfl⟩, ⟨rfl, rfl, rfl⟩, ?_⟩
  intro s r t v hread hanswer
  rw [exec_read_reg] at hread
  cases hread
  obtain rfl : regValue r s = v := Option.some.inj hanswer
  refine ⟨?_, ?_, ?_⟩
  · rintro rfl; exact rxStatus_code_le _
  · rintro rfl; exact txCause_code_le _
  · rintro rfl; exact rxCause_code_cases _

/-! ### The WRITEs (60_exceptions.md R157; 20_memory.md R38) -/

theorem Memory.missing_of_cap_lt {m : Memory} {c i n : Nat} (hcap : m.cap = some c) (hlt : c < i + n)
    (hn : n ≠ 0) : m.missing i n = some (max i c) := by
  simp [Memory.missing, hcap, hn, Nat.not_le.mpr hlt]

theorem Memory.missing_zero (m : Memory) (i : Nat) : m.missing i 0 = none := by
  unfold Memory.missing
  split
  · rfl
  · simp

theorem execWriteTxpay_of_missing_none {i : Nat} {bytes : List Byte} {s : State}
    (h : s.txpay.missing i bytes.length = none) :
    execWriteTxpay i bytes s = .next { s with
      txpay := s.txpay.writeBytes i bytes
      txDisturbed := s.txDisturbed || (txBusy s && !bytes.isEmpty) } :=
  execWriteTxpay_next.mpr ⟨h, rfl⟩

theorem execWriteRxbuf_of_missing_none {i : Nat} {bytes : List Byte} {s : State}
    (h : s.rxbuf.missing i bytes.length = none) :
    execWriteRxbuf i bytes s = .next { s with
      rxbuf := s.rxbuf.writeBytes i bytes
      rxDisturbed := s.rxDisturbed || (rxBusy s && !bytes.isEmpty) } :=
  execWriteRxbuf_next.mpr ⟨h, rfl⟩

theorem execWriteTxpay_of_missing {i j : Nat} {bytes : List Byte} {s : State}
    (h : s.txpay.missing i bytes.length = some j) :
    execWriteTxpay i bytes s = .fault (.noSuchByte .txpay j) := by
  simp [execWriteTxpay, h]

theorem execWriteRxbuf_of_missing {i j : Nat} {bytes : List Byte} {s : State}
    (h : s.rxbuf.missing i bytes.length = some j) :
    execWriteRxbuf i bytes s = .fault (.noSuchByte .rxbuf j) := by
  simp [execWriteRxbuf, h]

/-- Settles O43: a run that fits is written by `Memory.writeBytes`, and the note is a disjunction with `busy`. -/
theorem hostWritesStoreBytes : Obligations.HostWritesStoreBytes := by
  unfold Obligations.HostWritesStoreBytes
  constructor
  · intro s i bytes hfits
    refine ⟨_, _, execWriteTxpay_of_missing_none (Memory.missing_none_of_fits _ _ _ hfits),
      fun k b hk => Memory.read_writeBytes_inside _ _ _ _ _ _ hk,
      fun j hj => Memory.read_writeBytes_outside _ _ _ _ _ hj, fun hidle => ?_, fun hbusy hne => ?_⟩
    · rw [txBusy_eq_false_iff.mpr hidle, Bool.false_and, Bool.or_false]
    · simp [txBusy_eq_true_iff.mpr hbusy, hne]
  · intro s i bytes hfits
    refine ⟨_, _, execWriteRxbuf_of_missing_none (Memory.missing_none_of_fits _ _ _ hfits),
      fun k b hk => Memory.read_writeBytes_inside _ _ _ _ _ _ hk,
      fun j hj => Memory.read_writeBytes_outside _ _ _ _ _ hj, fun hidle => ?_, fun hbusy hne => ?_⟩
    · rw [rxBusy_eq_false_iff.mpr hidle, Bool.false_and, Bool.or_false]
    · simp [rxBusy_eq_true_iff.mpr hbusy, hne]

/-- Settles O45: the capacity decides, before anything is read or written. -/
theorem accessesBeyondABufferFault : Obligations.AccessesBeyondABufferFault := by
  unfold Obligations.AccessesBeyondABufferFault
  intro s
  refine ⟨fun i hi => readOutput_of_not_holds hi s, fun i hi => readOutput_of_not_holds hi s, ?txpay, ?rxbuf,
    fun i => ⟨?noTxpayByte, ?noRxbufByte⟩⟩
  case txpay =>
    intro c i bytes hcap hlt hne
    exact execWriteTxpay_of_missing (Memory.missing_of_cap_lt hcap hlt (mt List.length_eq_zero_iff.mp hne))
  case rxbuf =>
    intro c i bytes hcap hlt hne
    exact execWriteRxbuf_of_missing (Memory.missing_of_cap_lt hcap hlt (mt List.length_eq_zero_iff.mp hne))
  case noTxpayByte =>
    rw [exec_writeTxpay, execWriteTxpay_of_missing_none (Memory.missing_zero _ i)]
    simp [Memory.writeBytes]
  case noRxbufByte =>
    rw [exec_writeRxbuf, execWriteRxbuf_of_missing_none (Memory.missing_zero _ i)]
    simp [Memory.writeBytes]

/-! ### Starts that are not taken (60_exceptions.md R158) -/

theorem startTxThen_of_busy {n : Nat} {s : State} {k : State → State} (h : s.tx.phase ≠ .idle) :
    startTxThen n s k = .next s :=
  startTxThen_next.mpr (.inl ⟨txBusy_eq_true_iff.mpr h, rfl⟩)

theorem startRxThen_of_busy {n : Nat} {mode : ErrMode} {s : State} {k : State → State} (h : s.rx.phase ≠ .idle) :
    startRxThen n mode s k = .next s :=
  startRxThen_next.mpr (.inl ⟨by rw [rxTakes, rxBusy_eq_true_iff.mpr h]; rfl, rfl⟩)

theorem startRxThen_of_not_fits {n : Nat} {mode : ErrMode} {s : State} {k : State → State}
    (h : s.rxbuf.fits n = false) : startRxThen n mode s k = .next s :=
  startRxThen_next.mpr (.inl ⟨by rw [rxTakes, h, Bool.and_false], rfl⟩)

/-- Settles O38: a start and the whole operation behind it take the same decision. -/
theorem refusedStartsHaveNoEffect : Obligations.RefusedStartsHaveNoEffect := by
  unfold Obligations.RefusedStartsHaveNoEffect
  intro s n mode
  rw [exec_startTx, exec_encodeOp, exec_startRx, exec_decodeInstr]
  exact ⟨fun h => ⟨startTxThen_of_busy h, startTxThen_of_busy h⟩,
    fun h => ⟨startRxThen_of_busy h, startRxThen_of_busy h⟩,
    fun h => ⟨startRxThen_of_not_fits h, startRxThen_of_not_fits h⟩⟩

/-! ### Starts that do not fit (20_memory.md R38; 93_implementation_defined.md U7) -/

theorem startTxThen_of_tooSmall {n : Nat} {s : State} {k : State → State} {sp : Space}
    (hidle : s.tx.phase = .idle) (h : txTooSmall n s = some sp) :
    startTxThen n s k = .refused (.bufferTooSmall sp) := by
  simp [startTxThen, txTakes, txBusy, hidle, h]

theorem startRxThen_of_tooSmall {n : Nat} {mode : ErrMode} {s : State} {k : State → State} {sp : Space}
    (hidle : s.rx.phase = .idle) (hfits : s.rxbuf.fits n = true) (h : rxTooSmall n s = some sp) :
    startRxThen n mode s k = .refused (.bufferTooSmall sp) := by
  simp [startRxThen, rxTakes, rxBusy, hidle, hfits, h]

/-- What a legal ENCODE needs: room for its payload in TXPAY and, behind that, for its frame in TXFRM. -/
theorem txTooSmall_of_legal {n : Nat} (hpos : 1 ≤ n) (hlim : n < 65536) (s : State) :
    txTooSmall n s =
      if s.txpay.fits n = false then some .txpay
      else if s.txfrm.fits (frameSize (formatFor n) n) = false then some .txfrm else none := by
  have hlegal : ¬ (n = 0 ∨ Config.lenLimit ≤ n) := by
    rw [Config.lenLimit]
    omega
  rw [txTooSmall, if_neg hlegal]
  simp only [Bool.not_eq_true']

theorem txTooSmall_of_illegal {n : Nat} (h : n = 0 ∨ 65536 ≤ n) (s : State) : txTooSmall n s = none := if_pos h

theorem txTooSmall_eq_none_iff {n : Nat} (hpos : 1 ≤ n) (hlim : n < 65536) {s : State} :
    txTooSmall n s = none ↔ s.txpay.fits n = true ∧ s.txfrm.fits (frameSize (formatFor n) n) = true := by
  rw [txTooSmall_of_legal hpos hlim]
  cases s.txpay.fits n <;> cases s.txfrm.fits (frameSize (formatFor n) n) <;> simp

/-- The first bytes of the operand of DECODE are the operand of a shorter one. -/
theorem bufferOperand_take (n k : Nat) (s : State) : (bufferOperand n s).take k = bufferOperand (min n k) s := by
  apply List.ext_getElem?
  intro i
  obtain hlt | hge := Nat.lt_or_ge i (min n k)
  · rw [List.getElem?_take_of_lt (by omega), bufferOperand, bufferOperand,
      Memory.readBytes_getElem? _ _ _ _ _ (by omega), Memory.readBytes_getElem? _ _ _ _ _ hlt]
  · rw [List.getElem?_eq_none, List.getElem?_eq_none]
    · simpa [bufferOperand] using hge
    · simp only [List.length_take, bufferOperand, Memory.readBytes_length]
      omega

/-- The header is in the first three bytes. -/
theorem decodeHeader_take_three (b : List Byte) : decodeHeader (b.take 3) = decodeHeader b := by
  match b with
  | [] | [_] | [_, _] => rfl
  | m :: h :: l :: r =>
    cases hm : formatOf m with
    | none => rw [decodeHeader_of_no_format hm, List.take_succ_cons, decodeHeader_of_no_format hm]
    | some f =>
      obtain rfl := (formatOf_eq_some_iff m f).mp hm
      cases f <;> rfl

theorem payloadDoesNotFit_of_reject {n : Nat} {s : State} {e : FrameReject}
    (h : decodeFrame (bufferOperand n s) = .error e) : payloadDoesNotFit n s = false := by
  rw [payloadDoesNotFit, ← bufferOperand_take, decodeHeader_take_three]
  cases hh : decodeHeader (bufferOperand n s) with
  | error e => rfl
  | ok r =>
    obtain ⟨fmt, len⟩ := r
    have hlt : n < frameSize fmt len := by
      by_contra hle
      rw [decodeFrame_of_complete hh (by simpa [bufferOperand] using hle)] at h
      cases h
    simp [hlt]

theorem payloadDoesNotFit_of_frame {n : Nat} {s : State} {f : Frame}
    (h : decodeFrame (bufferOperand n s) = .ok f) :
    payloadDoesNotFit n s = !s.rxpay.fits f.payload.length := by
  obtain ⟨hwf, x, hx⟩ := decodeFrame_eq_ok_iff.mp h
  have hle : frameSize f.format f.payload.length ≤ n := by
    simpa [bufferOperand, frameTotal] using frameTotal_le_length h
  rw [payloadDoesNotFit, ← bufferOperand_take, decodeHeader_take_three, hx, decodeHeader_encodeFrame_append hwf]
  simp [hle]

theorem Memory.fits_of_cap_none {m : Memory} (h : m.cap = none) (n : Nat) : m.fits n = true := by
  simp [Memory.fits, h]

theorem rxTooSmall_of_reject {n : Nat} {s : State} {e : FrameReject}
    (h : decodeFrame (bufferOperand n s) = .error e) : rxTooSmall n s = none :=
  (rxTooSmall_eq_none_iff n s).mpr (.inr (payloadDoesNotFit_of_reject h))

/-- What a DECODE needs: room for the payload of a complete frame in RXPAY. -/
theorem rxTooSmall_of_frame {n : Nat} {s : State} {f : Frame} (h : decodeFrame (bufferOperand n s) = .ok f) :
    rxTooSmall n s = if s.rxpay.fits f.payload.length = true then none else some .rxpay := by
  rw [rxTooSmall, payloadDoesNotFit_of_frame h]
  cases hcap : s.rxpay.cap with
  | none => simp [Memory.fits_of_cap_none hcap]
  | some c => cases s.rxpay.fits f.payload.length <;> rfl

/-- Settles O39: `txTooSmall` asks TXPAY before TXFRM, and `rxTooSmall` the payload that the header announces. -/
theorem startsThatDoNotFitAreRefused : Obligations.StartsThatDoNotFitAreRefused := by
  unfold Obligations.StartsThatDoNotFitAreRefused
  constructor
  · intro s n hidle hpos hlim
    rw [exec_startTx, exec_encodeOp]
    refine ⟨fun hpay => ?_, fun hpay hfrm => ?_⟩
    · have hsmall : txTooSmall n s = some .txpay := by rw [txTooSmall_of_legal hpos hlim, if_pos hpay]
      exact ⟨startTxThen_of_tooSmall hidle hsmall, startTxThen_of_tooSmall hidle hsmall⟩
    · have hsmall : txTooSmall n s = some .txfrm := by
        rw [txTooSmall_of_legal hpos hlim, hpay, if_neg Bool.noConfusion, if_pos hfrm]
      exact ⟨startTxThen_of_tooSmall hidle hsmall, startTxThen_of_tooSmall hidle hsmall⟩
  · intro s n mode f hidle hbuf hf hpay
    have hsmall : rxTooSmall n s = some .rxpay := by
      rw [rxTooSmall_of_frame hf, hpay, if_neg Bool.noConfusion]
    rw [exec_startRx, exec_decodeInstr]
    exact ⟨startRxThen_of_tooSmall hidle hbuf hsmall, startRxThen_of_tooSmall hidle hbuf hsmall⟩

end Sys2Proof.Machine

/-! PROOFS, 41_framer.md and 42_deframer.md. The whole operations on the state: what ENCODE and DECODE leave (R91,
R98, R105, R116, R131), and that repeating one changes nothing (60_exceptions.md R150). -/

namespace Sys2Proof.Machine

/-! ### ENCODE (41_framer.md R91, R92, R105) -/

theorem encodePayload_eq_fault_iff {p : List Byte} {c : FaultCause} :
    encodePayload p = .fault c ↔ encodeFault p.length = some c := by
  cases hc : encodeFault p.length with
  | none => simp [encodePayload, hc]
  | some d => simp [encodePayload_of_fault hc]

theorem encodeFault_eq_empty_iff (n : Nat) : encodeFault n = some .empty ↔ n = 0 := by
  unfold encodeFault
  split_ifs with hzero hlim <;> simp [hzero]

theorem encodeFault_eq_tooLong_iff (n : Nat) : encodeFault n = some .tooLong ↔ 65536 ≤ n := by
  constructor
  · intro h
    by_contra hlt
    obtain rfl | hpos := Nat.eq_zero_or_pos n
    · cases h
    · rw [(encodeFault_eq_none_iff n).mpr ⟨hpos, Nat.not_le.mp hlt⟩] at h
      cases h
  · exact encodeFault_of_limit_le

/-- A fault of ENCODE is raised on the registers of the start. -/
theorem exec_encodeOp_of_fault {s : State} {n : Nat} (hidle : s.tx.phase = .idle) {c : FaultCause}
    (h : encodeFault n = some c) : exec (.encodeOp n) s = .next (raiseFault c (txStarted n s)) := by
  have hillegal : n = 0 ∨ 65536 ≤ n := by
    by_contra hlegal
    rw [(encodeFault_eq_none_iff n).mpr (by omega)] at h
    cases h
  rw [exec_encodeOp, startTxThen_taken hidle (txTooSmall_of_illegal hillegal s), performEncode_of_fault h]

/-- Settles O11: the fault is `encodeFault` of the length, and it is raised on the registers of the start. -/
theorem encodeFaultsOnLengthAlone : Obligations.EncodeFaultsOnLengthAlone := by
  unfold Obligations.EncodeFaultsOnLengthAlone
  refine ⟨?empty, ?tooLong, ?frame, rfl, rfl, rfl, rfl, ?execEmpty, ?execTooLong⟩
  case empty =>
    intro p
    rw [encodePayload_eq_fault_iff, encodeFault_eq_empty_iff]
  case tooLong =>
    intro p
    rw [encodePayload_eq_fault_iff, encodeFault_eq_tooLong_iff]
  case frame => exact fun p hpos hmax => ⟨_, encodePayload_frame hpos (Nat.lt_succ_of_le hmax)⟩
  case execEmpty =>
    intro s hidle
    rw [exec_encodeOp_of_fault hidle encodeFault_zero]
    rfl
  case execTooLong =>
    intro s n hidle hlim
    rw [exec_encodeOp_of_fault hidle (encodeFault_of_limit_le hlim)]
    rfl

theorem payloadOperand_length (n : Nat) (s : State) : (payloadOperand n s).length = n :=
  Memory.readBytes_length _ _ _ _

theorem bufferOperand_length (n : Nat) (s : State) : (bufferOperand n s).length = n :=
  Memory.readBytes_length _ _ _ _

theorem encodeFrame_payloadOperand_length (n : Nat) (s : State) :
    (encodeFrame (frameFor (payloadOperand n s))).length = frameSize (formatFor n) n := by
  rw [encodeFrame_length]
  simp only [frameFor, payloadOperand_length]

theorem deliverFrame_tx_started (n : Nat) (s : State) :
    (deliverFrame (payloadOperand n s) (txStarted n s)).tx =
      { len := n, phase := .idle
        pos := BitVec.ofNat 17 (encodeFrame (frameFor (payloadOperand n s))).length
        cnt := BitVec.ofNat 16 n, crc := crcOf (payloadOperand n s), status := .ok, cause := .noFault
        flen := BitVec.ofNat 17 (encodeFrame (frameFor (payloadOperand n s))).length } := by
  simp only [deliverFrame, payloadOperand_length, txStarted_tx, TxRegs.started]

/-- Settles O14: a legal ENCODE delivers the frame of its operand from the state that its start left. -/
theorem encodeCompletes : Obligations.EncodeCompletes := by
  unfold Obligations.EncodeCompletes
  intro s n hidle hpos hlim hpay hfrm
  have hlen := payloadOperand_length n s
  refine ⟨_, _, encodePayload_frame (by omega) (by omega), ?exec, deliverFrame_tx_started n s,
    encodeFrame_payloadOperand_length n s, fun i b hb => ?inside, fun i hi => ?behind,
    ⟨rfl, rfl, rfl, rfl, rfl, rfl, rfl, rfl⟩, rfl⟩
  case exec =>
    rw [exec_encodeOp, startTxThen_taken hidle ((txTooSmall_eq_none_iff hpos hlim).mpr ⟨hpay, hfrm⟩),
      performEncode_of_no_fault ((encodeFault_eq_none_iff n).mpr ⟨hpos, hlim⟩)]
    rfl
  case inside =>
    have hread := Memory.read_writeBytes_inside s.txfrm .txfrm 0 i _ b hb
    rwa [Nat.zero_add] at hread
  case behind =>
    exact Memory.read_writeBytes_outside s.txfrm .txfrm 0 i _ (.inr (by rwa [Nat.zero_add]))

/-! ### DECODE: why there is no frame (42_deframer.md R116) -/

/-- What each reason says of the buffer. -/
def RejectSays (b : List Byte) : FrameReject → Prop
  | .empty => b = []
  | .unknownMarker m => m ≠ 0x02#8 ∧ m ≠ 0x03#8 ∧ ∃ r, b = m :: r
  | .headerShort f present => b = f.marker :: present ∧ present.length + 1 < f.headerSize
  | .sizeShort f len => decodeHeader b = .ok (f, len) ∧ b.length < frameSize f len

theorem rejectSays_of_decodeHeader {b : List Byte} {e : FrameReject} (h : decodeHeader b = .error e) : RejectSays b e := by
  cases b with
  | nil => cases h; rfl
  | cons m r =>
    cases hm : formatOf m with
    | none =>
      rw [decodeHeader_of_no_format hm] at h
      cases h
      refine ⟨?_, ?_, r, rfl⟩ <;> rintro rfl <;> cases hm
    | some f =>
      obtain rfl := (formatOf_eq_some_iff m f).mp hm
      match f, r, h with
      | .short, [], h => cases h; exact ⟨rfl, by decide⟩
      | .long, [], h => cases h; exact ⟨rfl, by decide⟩
      | .long, [hi], h => cases h; exact ⟨rfl, by simp [Format.headerSize, Config.hdrSizeLong]⟩

theorem rejectSays_of_decodeFrame {b : List Byte} {e : FrameReject} (h : decodeFrame b = .error e) : RejectSays b e := by
  cases hh : decodeHeader b with
  | error d =>
    rw [decodeFrame_of_header_error hh] at h
    cases h
    exact rejectSays_of_decodeHeader hh
  | ok r =>
    obtain ⟨fmt, len⟩ := r
    obtain hlt | hle := Nat.lt_or_ge b.length (frameSize fmt len)
    · rw [decodeFrame_of_incomplete hh hlt] at h
      cases h
      exact ⟨hh, hlt⟩
    · rw [decodeFrame_of_complete hh hle] at h
      cases h

/-- The length bytes that are there, as RX_PAYLEN shows them: a short header has none. -/
theorem partialLen_eq_joinBytes {f : Format} {present : List Byte} (h : present.length + 1 < f.headerSize) :
    partialLen f present = joinBytes (present.headD 0) 0 := by
  cases f with
  | long => rfl
  | short =>
    obtain rfl : present = [] := List.length_eq_zero_iff.mp (by
      rw [Format.headerSize, Config.hdrSizeShort] at h
      omega)
    rfl

/-! ### DECODE: what it leaves (42_deframer.md R116, R131) -/

/-- The registers of a complete frame before its verdict (42_deframer.md R129). -/
def unjudgedRegs (f : Frame) (r : RxRegs) : RxRegs :=
  { frameRegs f r with flags := 0b0011#4, phase := .check }

/-- Without a complete frame DECODE ends as a step that finds none. -/
theorem performDecode_eq_of_reject {n : Nat} {mode : ErrMode} {s : State} {e : FrameReject}
    (h : decodeFrame (bufferOperand n s) = .error e) :
    performDecode n mode s = { s with rx := rxNoFrame (rejectRegs e s.rx) } :=
  performDecode_of_reject h

theorem flagsOf_complete : ∀ t c : Bool, flagsOf t c true true = setFlag (setFlag 0b0011#4 crcOkBit c) termOkBit t := by
  decide

theorem checkedFlags_unjudgedRegs (f : Frame) (r : RxRegs) :
    checkedFlags (unjudgedRegs f r) = (frameRegs f r).flags :=
  (setFlag_crcMatches_termMatches (unjudgedRegs f r)).symm.trans (flagsOf_complete _ _).symm

/-- On a complete frame DECODE ends as D_CHECK does on its registers. -/
theorem performDecode_eq_of_frame {n : Nat} {mode : ErrMode} {s : State} {f : Frame} (hmode : s.rx.mode = mode)
    (h : decodeFrame (bufferOperand n s) = .ok f) :
    performDecode n mode s =
      { s with rx := rxJudged (unjudgedRegs f s.rx), rxpay := s.rxpay.writeBytes 0 f.payload } := by
  have hregs : (unjudgedRegs f s.rx).mode = mode := hmode
  rw [performDecode_of_frame h]
  by_cases hcrc : crcOf f.payload = f.crc
  · have hcrc' : (unjudgedRegs f s.rx).crc = (unjudgedRegs f s.rx).fcrc := hcrc
    by_cases hterm : f.term = 0x03#8
    · rw [judge_of_valid hcrc hterm, rxJudged_of_valid hcrc' hterm, checkedFlags_unjudgedRegs]
      rfl
    · rw [judge_of_term_ne hcrc hterm, rxJudged_of_term_ne hcrc' hterm, checkedFlags_unjudgedRegs]
      rfl
  · have hcrc' : (unjudgedRegs f s.rx).crc ≠ (unjudgedRegs f s.rx).fcrc := hcrc
    cases mode with
    | ignore =>
      rw [judge_ignore_of_crc_ne hcrc, rxJudged_ignore_of_crc_ne hcrc' hregs, checkedFlags_unjudgedRegs]
      rfl
    | raise =>
      rw [judge_raise_of_crc_ne hcrc, rxJudged_raise_of_crc_ne hcrc' hregs, checkedFlags_unjudgedRegs]
      rfl

/-- A DECODE that is taken and fits completes. -/
theorem exec_decodeInstr_taken {s : State} {n : Nat} {mode : ErrMode} (hidle : s.rx.phase = .idle)
    (hbuf : s.rxbuf.fits n = true) (hroom : rxTooSmall n s = none) :
    exec (decodeInstr mode n) s = .next (performDecode n mode (rxStarted n mode s)) := by
  rw [exec_decodeInstr, startRxThen_taken hidle hbuf hroom]

theorem rxTooSmall_eq_none_of_fits {n : Nat} {s : State}
    (h : ∀ f, decodeFrame (bufferOperand n s) = .ok f → s.rxpay.fits f.payload.length = true) :
    rxTooSmall n s = none := by
  cases hf : decodeFrame (bufferOperand n s) with
  | error e => exact rxTooSmall_of_reject hf
  | ok f => rw [rxTooSmall_of_frame hf, if_pos (h f hf)]

/-- The registers after D_CHECK on a complete frame, field by field. -/
theorem rxJudged_unjudgedRegs_started (f : Frame) (n : Nat) (mode : ErrMode) :
    rxJudged (unjudgedRegs f (RxRegs.started n mode)) =
      { n := n, mode := mode, phase := .idle
        pos := BitVec.ofNat 17 (frameTotal f)
        cnt := BitVec.ofNat 16 f.payload.length
        marker := f.format.marker
        payidx := BitVec.ofNat 2 f.format.headerSize
        paylen := BitVec.ofNat 16 f.payload.length
        fsize := BitVec.ofNat 17 (frameTotal f)
        crc := crcOf f.payload, fcrc := f.crc, term := f.term
        flags := (if f.term = 0x03#8 then 0b1000#4 else 0#4) |||
          (if crcOf f.payload = f.crc then 0b0100#4 else 0#4) ||| 0b0011#4
        status :=
          if crcOf f.payload = f.crc then (if f.term = 0x03#8 then .accept else .fault)
          else if mode = .ignore then .discard else .fault
        cause :=
          if crcOf f.payload = f.crc then (if f.term = 0x03#8 then .noFault else .invalidTerminator)
          else if mode = .ignore then .noFault else .invalidCrc
        consumed :=
          if crcOf f.payload = f.crc then
            (if f.term = 0x03#8 then BitVec.ofNat 17 (frameTotal f) else 0)
          else if mode = .ignore then BitVec.ofNat 17 (frameTotal f) else 0 } := by
  have hflags : checkedFlags (unjudgedRegs f (RxRegs.started n mode)) =
      (if f.term = 0x03#8 then 0b1000#4 else 0#4) |||
        (if crcOf f.payload = f.crc then 0b0100#4 else 0#4) ||| 0b0011#4 := by
    rw [checkedFlags, unjudgedRegs, frameRegs, BitVec.and_self]
  rw [rxJudged, hflags]
  by_cases hcrc : crcOf f.payload = f.crc
  · by_cases hterm : f.term = 0x03#8
    · simp [unjudgedRegs, frameRegs, RxRegs.started, payidxOf, hcrc, hterm]
    · simp [unjudgedRegs, frameRegs, RxRegs.started, payidxOf, hcrc, hterm]
  · cases mode with
    | ignore => simp [unjudgedRegs, frameRegs, RxRegs.started, payidxOf, hcrc]
    | raise => simp [unjudgedRegs, frameRegs, RxRegs.started, payidxOf, hcrc]

/-- DECODE changes the RXD side of the state only, and of that no input. -/
theorem performDecode_frame {n : Nat} {mode : ErrMode} {s : State} (hmode : s.rx.mode = mode) :
    SameButRx s (performDecode n mode s) ∧ (performDecode n mode s).rxFree = s.rxFree := by
  cases hf : decodeFrame (bufferOperand n s) with
  | error e =>
    rw [performDecode_eq_of_reject hf]
    exact ⟨⟨rfl, rfl, rfl, rfl, rfl, rfl, rfl, rfl⟩, rfl⟩
  | ok f =>
    rw [performDecode_eq_of_frame hmode hf]
    exact ⟨⟨rfl, rfl, rfl, rfl, rfl, rfl, rfl, rfl⟩, rfl⟩

/-- Settles O27: without a complete frame the registers are `rejectRegs` of the reason, which says how much of the
buffer was read; with one they are those of D_CHECK. -/
theorem decodeCompletes : Obligations.DecodeCompletes := by
  unfold Obligations.DecodeCompletes
  intro s n mode hidle hbuf hpay
  obtain ⟨hsame, hfree⟩ := performDecode_frame (n := n) (mode := mode) (s := rxStarted n mode s) rfl
  refine ⟨_, exec_decodeInstr_taken hidle hbuf (rxTooSmall_eq_none_of_fits hpay), hsame, hfree, ?_⟩
  have hlen := bufferOperand_length n s
  cases hf : decodeFrame (bufferOperand n s) with
  | error e =>
    have hsays := rejectSays_of_decodeFrame hf
    rw [performDecode_eq_of_reject (s := rxStarted n mode s) hf]
    cases e with
    | empty => exact ⟨rfl, rfl⟩
    | unknownMarker m => exact ⟨rfl, rfl⟩
    | sizeShort fmt len => exact ⟨rfl, rfl⟩
    | headerShort fmt present =>
      obtain ⟨hb, hshort⟩ := hsays
      have hn : present.length + 1 = n := by rw [← hlen, hb, List.length_cons]
      refine ⟨rfl, ?_⟩
      simp only [rejectRegs, partialLen_eq_joinBytes hshort, hn]
      rfl
  | ok f =>
    rw [performDecode_eq_of_frame (mode := mode) (s := rxStarted n mode s) rfl hf]
    refine ⟨fun i b hb => ?_, fun i hi => ?_, rxJudged_unjudgedRegs_started f n mode⟩
    · have hread := Memory.read_writeBytes_inside s.rxpay .rxpay 0 i _ b hb
      rwa [Nat.zero_add] at hread
    · exact Memory.read_writeBytes_outside s.rxpay .rxpay 0 i _ (.inr (by rwa [Nat.zero_add]))

/-! ### The same operation again (60_exceptions.md R150) -/

theorem raiseFault_txf_frame {n : Nat} {c : FaultCause} (h : encodeFault n = some c) (s : State) :
    raiseFault c s = { s with tx := (raiseFault c s).tx } ∧ (raiseFault c s).tx.phase = .idle := by
  obtain hzero | hpos := Nat.eq_zero_or_pos n
  · subst hzero
    cases h
    exact ⟨rfl, rfl⟩
  · have hlim : 65536 ≤ n := by
      by_contra hlt
      rw [(encodeFault_eq_none_iff n).mpr ⟨hpos, Nat.not_le.mp hlt⟩] at h
      cases h
    rw [encodeFault_of_limit_le hlim] at h
    cases h
    exact ⟨rfl, rfl⟩

/-- ENCODE writes registers of TXF and the same bytes each time. -/
theorem performEncode_frame (n : Nat) (s : State) :
    (performEncode n s).tx.phase = .idle ∧ SameButTx s (performEncode n s) ∧ ∃ bytes, ∀ t : State,
      payloadOperand n t = payloadOperand n s → (performEncode n t).txfrm = t.txfrm.writeBytes 0 bytes := by
  cases hf : encodeFault n with
  | some c =>
    obtain ⟨heq, hidle⟩ := raiseFault_txf_frame hf s
    rw [performEncode_of_fault hf]
    refine ⟨hidle, ?_, [], fun t _ => ?_⟩
    · rw [heq]
      exact ⟨rfl, rfl, rfl, rfl, rfl, rfl, rfl, rfl⟩
    · obtain ⟨heq, -⟩ := raiseFault_txf_frame hf t
      rw [performEncode_of_fault hf, heq]
      rfl
  | none =>
    rw [performEncode_of_no_fault hf]
    refine ⟨rfl, ⟨rfl, rfl, rfl, rfl, rfl, rfl, rfl, rfl⟩, encodeFrame (frameFor (payloadOperand n s)),
      fun t ht => ?_⟩
    rw [performEncode_of_no_fault hf, ht, deliverFrame_txfrm]

theorem performDecode_idle (n : Nat) (mode : ErrMode) (s : State) :
    (performDecode n mode (rxStarted n mode s)).rx.phase = .idle := by
  cases hf : decodeFrame (bufferOperand n (rxStarted n mode s)) with
  | error e =>
    rw [performDecode_eq_of_reject hf]
    rfl
  | ok f =>
    rw [performDecode_eq_of_frame (mode := mode) rfl hf]
    exact congrArg RxRegs.phase (rxJudged_unjudgedRegs_started f n mode)

/-- DECODE writes the same bytes to RXPAY each time. -/
theorem performDecode_rxpay (n : Nat) (mode : ErrMode) (s : State) :
    ∃ bytes, ∀ t : State, bufferOperand n t = bufferOperand n s →
      (performDecode n mode t).rxpay = t.rxpay.writeBytes 0 bytes := by
  cases hf : decodeFrame (bufferOperand n s) with
  | error e =>
    refine ⟨[], fun t ht => ?_⟩
    rw [performDecode_of_reject (ht ▸ hf), deliverOutcome_rxpay]
    rfl
  | ok f =>
    refine ⟨f.payload, fun t ht => ?_⟩
    rw [performDecode_of_frame (ht ▸ hf), deliverOutcome_rxpay]

/-- Bytes written twice over read as written once. -/
theorem Memory.read_writeBytes_writeBytes (m : Memory) (sp : Space) (bytes : List Byte) (i : Nat) :
    ((m.writeBytes 0 bytes).writeBytes 0 bytes).read sp i = (m.writeBytes 0 bytes).read sp i := by
  obtain hlt | hge := Nat.lt_or_ge i bytes.length
  · rw [Memory.read_writeBytes_zero _ _ hlt, Memory.read_writeBytes_zero _ _ hlt]
  · exact Memory.read_writeBytes_outside _ _ _ _ _ (.inr (by rwa [Nat.zero_add]))

theorem Memory.fits_congr {m m' : Memory} (h : m.cap = m'.cap) (n : Nat) : m.fits n = m'.fits n := by
  rw [Memory.fits, Memory.fits, h]

theorem txTooSmall_congr {n : Nat} {s t : State} (hpay : s.txpay.cap = t.txpay.cap)
    (hfrm : s.txfrm.cap = t.txfrm.cap) : txTooSmall n s = txTooSmall n t := by
  simp only [txTooSmall, Memory.fits_congr hpay, Memory.fits_congr hfrm]

theorem rxTooSmall_congr {n : Nat} {s t : State} (hbuf : bufferOperand n s = bufferOperand n t)
    (hpay : s.rxpay.cap = t.rxpay.cap) : rxTooSmall n s = rxTooSmall n t := by
  cases hf : decodeFrame (bufferOperand n s) with
  | error e => rw [rxTooSmall_of_reject hf, rxTooSmall_of_reject (hbuf ▸ hf)]
  | ok f => rw [rxTooSmall_of_frame hf, rxTooSmall_of_frame (hbuf ▸ hf), Memory.fits_congr hpay]

theorem txTooSmall_of_exec_next {s t : State} {n : Nat} (hidle : s.tx.phase = .idle)
    (h : exec (.encodeOp n) s = .next t) : txTooSmall n s = none := by
  rw [exec_encodeOp, startTxThen_next] at h
  obtain ⟨hbusy, -⟩ | ⟨-, hroom, -⟩ := h
  · rw [txBusy_eq_false_iff.mpr hidle] at hbusy
    cases hbusy
  · exact hroom

theorem rxTooSmall_of_exec_next {s t : State} {n : Nat} {mode : ErrMode} (hidle : s.rx.phase = .idle)
    (hbuf : s.rxbuf.fits n = true) (h : exec (decodeInstr mode n) s = .next t) : rxTooSmall n s = none := by
  rw [exec_decodeInstr, startRxThen_next] at h
  obtain ⟨hnot, -⟩ | ⟨-, hroom, -⟩ := h
  · rw [rxTakes, rxBusy_eq_false_iff.mpr hidle, hbuf] at hnot
    cases hnot
  · exact hroom

/-- An ENCODE that completed completes again and leaves the same. -/
theorem exec_encodeOp_again {s t : State} {n : Nat} (hidle : s.tx.phase = .idle)
    (h : exec (.encodeOp n) s = .next t) :
    ∃ u, exec (.encodeOp n) t = .next u ∧ u.tx = t.tx ∧ ∀ i, u.txfrm.read .txfrm i = t.txfrm.read .txfrm i := by
  have ht := exec_encodeOp_next_of_idle hidle h
  obtain ⟨hdone, ⟨-, hpay, -⟩, bytes, hbytes⟩ := performEncode_frame n (txStarted n s)
  have hfrm : t.txfrm = s.txfrm.writeBytes 0 bytes := ht ▸ hbytes _ rfl
  rw [← ht] at hdone hpay
  have hoperand : payloadOperand n (txStarted n t) = payloadOperand n (txStarted n s) := by
    simp only [payloadOperand, txStarted_txpay, hpay]
  have hroom : txTooSmall n t = none := by
    rw [← txTooSmall_of_exec_next hidle h]
    exact txTooSmall_congr (congrArg Memory.cap hpay) (by rw [hfrm, Memory.writeBytes_cap])
  refine ⟨performEncode n (txStarted n t), ?_, ?_, fun i => ?_⟩
  · rw [exec_encodeOp, startTxThen_taken hdone hroom]
  · rw [ht]
    exact performEncode_tx_congr rfl (ht ▸ hoperand)
  · rw [hbytes _ hoperand, txStarted_txfrm, hfrm]
    exact Memory.read_writeBytes_writeBytes _ _ _ _

/-- A DECODE that completed completes again and leaves the same. -/
theorem exec_decodeInstr_again {s t : State} {n : Nat} {mode : ErrMode} (hidle : s.rx.phase = .idle)
    (h : exec (decodeInstr mode n) s = .next t) :
    ∃ u, exec (decodeInstr mode n) t = .next u ∧ u.rx = t.rx ∧
      ∀ i, u.rxpay.read .rxpay i = t.rxpay.read .rxpay i := by
  cases hfits : s.rxbuf.fits n with
  | false =>
    have hsame := h
    rw [exec_decodeInstr, startRxThen_of_not_fits hfits] at hsame
    cases hsame
    exact ⟨s, h, rfl, fun _ => rfl⟩
  | true =>
    have ht := exec_decodeInstr_next_of_idle hidle hfits h
    have hdone := performDecode_idle n mode s
    obtain ⟨⟨-, -, -, hbuf, -⟩, -⟩ := performDecode_frame (n := n) (mode := mode) (s := rxStarted n mode s) rfl
    obtain ⟨bytes, hbytes⟩ := performDecode_rxpay n mode (rxStarted n mode s)
    have hpay : t.rxpay = s.rxpay.writeBytes 0 bytes := ht ▸ hbytes _ rfl
    rw [← ht] at hdone hbuf
    have hoperand : bufferOperand n (rxStarted n mode t) = bufferOperand n (rxStarted n mode s) := by
      simp only [bufferOperand, rxStarted_rxbuf, hbuf]
    have hroom : rxTooSmall n t = none := by
      rw [← rxTooSmall_of_exec_next hidle hfits h]
      exact rxTooSmall_congr hoperand (by rw [hpay, Memory.writeBytes_cap])
    refine ⟨performDecode n mode (rxStarted n mode t), ?_, ?_, fun i => ?_⟩
    · exact exec_decodeInstr_taken hdone (by rwa [hbuf]) hroom
    · rw [ht]
      exact performDecode_rx_congr mode rfl (ht ▸ hoperand)
    · rw [hbytes _ hoperand, rxStarted_rxpay, hpay]
      exact Memory.read_writeBytes_writeBytes _ _ _ _

/-- Settles O55: an operation leaves its input buffer and every capacity alone, so it is taken and fits again, and
its outcome is a function of that input. -/
theorem repeatedOperationsAgree : Obligations.RepeatedOperationsAgree := by
  unfold Obligations.RepeatedOperationsAgree
  refine ⟨fun s t n hidle h => exec_encodeOp_again hidle h, fun s t n mode hidle h => exec_decodeInstr_again hidle h,
    fun b x c mode hfault => ?_⟩
  rw [decodeBuffer_append (fun hnone => by cases hfault.symm.trans hnone), hfault]

end Sys2Proof.Machine

/-! PROOFS, 10_state.md and 20_memory.md. What a step of the machine can do, said once, and what every step keeps:
the canonical form of the buffers, and the registers of the units as their phases require. -/

namespace Sys2Proof.Machine

/-! ### Everything that a turn can do -/

/-- `TurnEffect s turn t`: the turn, taken in `s`, leads to `t`, by one of the ways the rules give it. -/
inductive TurnEffect (s : State) : Turn → State → Prop
  /-- A start or an operation that is not taken (60_exceptions.md R158). -/
  | notTaken (turn : Turn) (hrouses : turn.rouses = true) : TurnEffect s turn s
  | startTx (n : Nat) (hroom : txTooSmall n s = none) : TurnEffect s (.host (.startTx n)) (txStarted n s)
  | startRx (n : Nat) (mode : ErrMode) (hroom : rxTooSmall n s = none) :
      TurnEffect s (.host (.startRx n mode)) (rxStarted n mode s)
  | encode (key : BitVec 2) (n : Nat) (hroom : txTooSmall n s = none) :
      TurnEffect s (.op key n) (performEncode n (txStarted n s))
  | decode (key : BitVec 2) (n : Nat) (mode : ErrMode) (hroom : rxTooSmall n s = none) :
      TurnEffect s (.op key n) (performDecode n mode (rxStarted n mode s))
  | answer (turn : Turn) (v : Nat) (hquiet : turn.rouses = false) : TurnEffect s turn (answerHost v s)
  | writeTxpay (i : Nat) (bytes : List Byte) (hin : s.txpay.missing i bytes.length = none) :
      TurnEffect s (.host (.writeTxpay i bytes)) { s with
        txpay := s.txpay.writeBytes i bytes
        txDisturbed := s.txDisturbed || (txBusy s && !bytes.isEmpty) }
  | writeRxbuf (i : Nat) (bytes : List Byte) (hin : s.rxbuf.missing i bytes.length = none) :
      TurnEffect s (.host (.writeRxbuf i bytes)) { s with
        rxbuf := s.rxbuf.writeBytes i bytes
        rxDisturbed := s.rxDisturbed || (rxBusy s && !bytes.isEmpty) }
  | txf (t : State) (hstep : txStep s = .next t) : TurnEffect s (.unit .txf) t
  | rxd (t : State) (hstep : rxStep exec s = .next t) : TurnEffect s (.unit .rxd) t
  | reset : TurnEffect s .reset (resetBlock s)

theorem turnEffect_of_host {s t : State} {a : HostAct} (h : exec a.instr s = .next t) :
    TurnEffect s (.host a) t := by
  cases a with
  | startTx n =>
    obtain ⟨-, rfl⟩ | ⟨-, hroom, rfl⟩ := startTxThen_next.mp h
    · exact .notTaken _ rfl
    · exact .startTx n hroom
  | startRx n mode =>
    obtain ⟨-, rfl⟩ | ⟨-, hroom, rfl⟩ := startRxThen_next.mp h
    · exact .notTaken _ rfl
    · exact .startRx n mode hroom
  | poll u => cases h; exact .answer _ _ rfl
  | read target =>
    cases target with
    | reg r => cases h; exact .answer _ _ rfl
    | txfrm i => obtain ⟨-, rfl⟩ := readOutput_next.mp h; exact .answer _ _ rfl
    | rxpay i => obtain ⟨-, rfl⟩ := readOutput_next.mp h; exact .answer _ _ rfl
  | writeTxpay i bytes => obtain ⟨hin, rfl⟩ := execWriteTxpay_next.mp h; exact .writeTxpay i bytes hin
  | writeRxbuf i bytes => obtain ⟨hin, rfl⟩ := execWriteRxbuf_next.mp h; exact .writeRxbuf i bytes hin

theorem turnEffect_of_op {s t : State} {key : BitVec 2} {n : Nat} (h : exec (decodeOpsel key n) s = .next t) :
    TurnEffect s (.op key n) t := by
  obtain hop | ⟨mode, hop⟩ := decodeOpsel_cases key n
  · rw [hop, exec_encodeOp] at h
    obtain ⟨-, rfl⟩ | ⟨-, hroom, rfl⟩ := startTxThen_next.mp h
    · exact .notTaken _ rfl
    · exact .encode key n hroom
  · rw [hop, exec_decodeInstr] at h
    obtain ⟨-, rfl⟩ | ⟨-, hroom, rfl⟩ := startRxThen_next.mp h
    · exact .notTaken _ rfl
    · exact .decode key n mode hroom

theorem turnEffect_of_takeTurn {s t : State} {turn : Turn} (h : takeTurn turn s = .next t) :
    TurnEffect s turn t := by
  cases turn with
  | host a => exact turnEffect_of_host h
  | op key n => exact turnEffect_of_op h
  | unit u =>
    cases u with
    | txf => exact .txf t h
    | rxd => exact .rxd t h
  | reset => cases h; exact .reset

theorem turnEffect_of_step {s t : State} (h : step s = .next t) : TurnEffect (popTurn s) (nextTurn s) t :=
  turnEffect_of_takeTurn h

/-- Settles O49: the turns that rouse nothing answer, store input bytes, or give an idle unit its turn. -/
theorem idleBlockWaits : Obligations.IdleBlockWaits := by
  unfold Obligations.IdleBlockWaits
  intro s t htx hrx hquiet hstep
  have heffect := turnEffect_of_step hstep
  generalize nextTurn s = turn at hquiet heffect
  cases heffect with
  | notTaken _ hrouses => rw [hquiet] at hrouses; cases hrouses
  | startTx | startRx | encode | decode | reset => cases hquiet
  | answer => exact ⟨rfl, rfl, rfl, rfl⟩
  | writeTxpay => exact ⟨rfl, rfl, rfl, rfl⟩
  | writeRxbuf => exact ⟨rfl, rfl, rfl, rfl⟩
  | txf _ hunit =>
    rw [txStep_idle (popTurn s) htx] at hunit
    cases hunit
    exact ⟨rfl, rfl, rfl, rfl⟩
  | rxd _ hunit =>
    rw [rxStep_idle exec (popTurn s) hrx] at hunit
    cases hunit
    exact ⟨rfl, rfl, rfl, rfl⟩

/-! ### The canonical form of the buffers (20_memory.md R38) -/

/-- A run of bytes within a length that fits keeps the canonical form. -/
theorem Memory.writeBytes_zero_wf {m : Memory} {bytes : List Byte} (hfits : m.fits bytes.length = true)
    (h : m.wf = true) : (m.writeBytes 0 bytes).wf = true :=
  m.writeBytes_wf 0 bytes (fun k hk => m.holds_of_fits _ _ hfits (by omega)) h

theorem txStep_keeps_canonical {s t : State} (hs : BuffersCanonical s) (h : txStep s = .next t) :
    BuffersCanonical t := by
  obtain ⟨hpay, hfrm, hbuf, hrxpay⟩ := hs
  obtain ⟨-, rfl⟩ | ⟨-, rfl⟩ | ⟨-, -, hout, rfl⟩ := txStep_cases h
  · exact ⟨hpay, hfrm, hbuf, hrxpay⟩
  · exact ⟨hpay, hfrm, hbuf, hrxpay⟩
  · exact ⟨hpay, Memory.write_wf _ _ _ hout hfrm, hbuf, hrxpay⟩

theorem rxTaken_rxpay (s : State) :
    (rxTaken s).rxpay =
      if s.rx.phase = .pay then s.rxpay.write s.rx.cnt.toNat (rxbufByte s s.rx.pos.toNat) else s.rxpay := rfl

theorem rxStep_keeps_canonical {s t : State} (hs : BuffersCanonical s) (h : rxStep exec s = .next t) :
    BuffersCanonical t := by
  obtain ⟨hpay, hfrm, hbuf, hrxpay⟩ := hs
  obtain ⟨-, rfl⟩ | ⟨-, -, hout, rfl⟩ := rxStep_cases h
  · exact ⟨hpay, hfrm, hbuf, hrxpay⟩
  · refine ⟨hpay, hfrm, hbuf, ?_⟩
    rw [rxTaken_rxpay]
    split_ifs with hphase
    · exact Memory.write_wf _ _ _ (hout hphase) hrxpay
    · exact hrxpay

theorem performEncode_keeps_canonical {s : State} {n : Nat} (hs : BuffersCanonical s)
    (hroom : txTooSmall n s = none) : BuffersCanonical (performEncode n (txStarted n s)) := by
  cases hf : encodeFault n with
  | some c =>
    obtain ⟨heq, -⟩ := raiseFault_txf_frame hf (txStarted n s)
    rw [performEncode_of_fault hf, heq]
    exact hs
  | none =>
    obtain ⟨hpos, hlim⟩ := (encodeFault_eq_none_iff n).mp hf
    obtain ⟨-, hfits⟩ := (txTooSmall_eq_none_iff hpos hlim).mp hroom
    obtain ⟨hpay, hfrm, hbuf, hrxpay⟩ := hs
    rw [performEncode_of_no_fault hf]
    rw [← encodeFrame_payloadOperand_length n s] at hfits
    exact ⟨hpay, Memory.writeBytes_zero_wf hfits hfrm, hbuf, hrxpay⟩

theorem performDecode_keeps_canonical {s : State} {n : Nat} {mode : ErrMode} (hs : BuffersCanonical s)
    (hroom : rxTooSmall n s = none) : BuffersCanonical (performDecode n mode (rxStarted n mode s)) := by
  cases hf : decodeFrame (bufferOperand n s) with
  | error e =>
    rw [performDecode_eq_of_reject (s := rxStarted n mode s) hf]
    exact hs
  | ok f =>
    have hfits : s.rxpay.fits f.payload.length = true := by
      by_contra hnot
      rw [rxTooSmall_of_frame hf, if_neg hnot] at hroom
      cases hroom
    obtain ⟨hpay, hfrm, hbuf, hrxpay⟩ := hs
    rw [performDecode_eq_of_frame (mode := mode) (s := rxStarted n mode s) rfl hf]
    exact ⟨hpay, hfrm, hbuf, Memory.writeBytes_zero_wf hfits hrxpay⟩

theorem turnEffect_keeps_canonical {s t : State} {turn : Turn} (hs : BuffersCanonical s)
    (h : TurnEffect s turn t) : BuffersCanonical t := by
  cases h with
  | notTaken | startTx | startRx | answer | reset => exact hs
  | encode key n hroom => exact performEncode_keeps_canonical hs hroom
  | decode key n mode hroom => exact performDecode_keeps_canonical hs hroom
  | writeTxpay i bytes hin =>
    obtain ⟨hpay, hfrm, hbuf, hrxpay⟩ := hs
    exact ⟨Memory.writeBytes_wf _ _ _ (fun k hk => Memory.holds_of_missing_none _ _ _ _ hin hk) hpay, hfrm, hbuf,
      hrxpay⟩
  | writeRxbuf i bytes hin =>
    obtain ⟨hpay, hfrm, hbuf, hrxpay⟩ := hs
    exact ⟨hpay, hfrm, Memory.writeBytes_wf _ _ _ (fun k hk => Memory.holds_of_missing_none _ _ _ _ hin hk) hbuf,
      hrxpay⟩
  | txf _ hstep => exact txStep_keeps_canonical hs hstep
  | rxd _ hstep => exact rxStep_keeps_canonical hs hstep

/-- Settles O58: each turn writes only bytes that its buffer has. -/
theorem stepKeepsBuffersCanonical : Obligations.StepKeepsBuffersCanonical := by
  unfold Obligations.StepKeepsBuffersCanonical
  intro s t hs hstep
  exact turnEffect_keeps_canonical (s := popTurn s) hs (turnEffect_of_step hstep)

/-! ### The registers of TXF (10_state.md R13, R16 to R18) -/

theorem txInv_started (n : Nat) : TxInv (TxRegs.started n) := ⟨⟨rfl, rfl, rfl⟩, rfl, rfl, rfl⟩

theorem txInv_reset : TxInv TxRegs.reset := .inl ⟨rfl, rfl, rfl⟩

theorem txHeader_eq (r : TxRegs) : txHeader r = if r.len < 256 then 2 else 3 := by
  obtain hlt | hle := Nat.lt_or_ge r.len 256
  · rw [txHeader, formatFor_of_lt hlt, if_pos hlt]
    rfl
  · rw [txHeader, formatFor_of_le hle, if_neg (Nat.not_lt.mpr hle)]
    rfl

theorem txInv_txChecked {r : TxRegs} (hphase : r.phase = .check) (h : TxInv r) : TxInv (txChecked r) := by
  rw [TxInv, hphase] at h
  obtain ⟨hworking, hpos, hcnt, hcrc⟩ := h
  rw [txChecked]
  split_ifs with hzero hlim
  · exact .inr (.inr ⟨rfl, rfl, hpos, hcnt, hcrc, .inl ⟨rfl, hzero⟩⟩)
  · exact .inr (.inr ⟨rfl, rfl, hpos, hcnt, hcrc, .inr ⟨rfl, hlim⟩⟩)
  · exact ⟨⟨hworking, Nat.pos_of_ne_zero hzero, Nat.not_le.mp hlim⟩, hpos, hcnt, hcrc⟩

/-- A position below MAX_FRAME advances without a carry. -/
theorem pos_succ_toNat {p : Pos} (h : p.toNat ≤ 65541) : (p + 1).toNat = p.toNat + 1 := by
  bv_omega

theorem cnt_succ_toNat {c : Half} (h : c.toNat < 65535) : (c + 1).toNat = c.toNat + 1 := by
  bv_omega

theorem txHeader_bounds (r : TxRegs) : 2 ≤ txHeader r ∧ txHeader r ≤ 3 := by
  rw [txHeader_eq]
  split <;> omega

theorem txInv_txAdvance_mark {r : TxRegs} (hphase : r.phase = .mark) (h : TxInv r) (b : Byte) :
    TxInv (txAdvance b r) := by
  rw [TxInv, hphase] at h
  obtain ⟨hemit, hpos, hcnt, hcrc⟩ := h
  have hpos' : (r.pos + 1).toNat = 1 := by rw [hpos]; rfl
  rw [txAdvance, hphase]
  obtain hlt | hle := Nat.lt_or_ge r.len 256
  · dsimp only
    rw [if_pos hlt]
    refine ⟨hemit, ?_, hcnt, hcrc⟩
    exact (congrArg (· + 1) hpos').trans ((txHeader_eq r).trans (if_pos hlt)).symm
  · dsimp only
    rw [if_neg (Nat.not_lt.mpr hle)]
    exact ⟨hemit, hle, hpos', hcnt, hcrc⟩

theorem txInv_txAdvance_pay {r : TxRegs} (hphase : r.phase = .pay) (h : TxInv r) (b : Byte) :
    TxInv (txAdvance b r) := by
  rw [TxInv, hphase] at h
  obtain ⟨⟨hworking, hone, hlimit⟩, hcnt, hpos⟩ := h
  have hlim : r.len < 65536 := hlimit
  have hheader := txHeader_bounds r
  have hpos' : (r.pos + 1).toNat = r.pos.toNat + 1 := pos_succ_toNat (by omega)
  rw [txAdvance, hphase]
  dsimp only
  split_ifs with hlast
  · refine ⟨⟨hworking, hone, hlimit⟩, hlast, hpos'.trans ?_⟩
    have hcnt' : (r.cnt + 1).toNat = r.cnt.toNat + 1 := by bv_omega
    change r.pos.toNat + 1 = txHeader r + r.len
    omega
  · have hcnt' : (r.cnt + 1).toNat = r.cnt.toNat + 1 := by bv_omega
    refine ⟨⟨hworking, hone, hlimit⟩, ?_, hpos'.trans ?_⟩
    · change (r.cnt + 1).toNat < r.len
      omega
    · change r.pos.toNat + 1 = txHeader r + (r.cnt + 1).toNat
      omega

/-- A step of TXF that emits moves TX_POS by one, and each phase names the sum that it then holds. -/
theorem txInv_txAdvance {r : TxRegs} (hemits : r.phase.emits = true) (h : TxInv r) (b : Byte) :
    TxInv (txAdvance b r) := by
  have hheader := txHeader_bounds r
  cases hphase : r.phase with
  | idle | check => rw [hphase] at hemits; cases hemits
  | mark => exact txInv_txAdvance_mark hphase h b
  | pay => exact txInv_txAdvance_pay hphase h b
  | lenh =>
    rw [TxInv, hphase] at h
    obtain ⟨hemit, hlong, hpos, hcnt, hcrc⟩ := h
    rw [txAdvance, hphase]
    refine ⟨hemit, ?_, hcnt, hcrc⟩
    have hthree : txHeader r = 3 := (txHeader_eq r).trans (if_neg (Nat.not_lt.mpr hlong))
    have hpos' : (r.pos + 1).toNat = r.pos.toNat + 1 := pos_succ_toNat (by omega)
    change (r.pos + 1).toNat + 1 = txHeader r
    omega
  | lenl =>
    rw [TxInv, hphase] at h
    obtain ⟨⟨hworking, hone, hlimit⟩, hpos, hcnt, hcrc⟩ := h
    rw [txAdvance, hphase]
    have hpos' : (r.pos + 1).toNat = r.pos.toNat + 1 := pos_succ_toNat (by omega)
    have hzero : r.cnt.toNat = 0 := congrArg BitVec.toNat hcnt
    refine ⟨⟨hworking, hone, hlimit⟩, ?_, ?_⟩
    · change r.cnt.toNat < r.len
      omega
    · change (r.pos + 1).toNat = txHeader r + r.cnt.toNat
      omega
  | crch =>
    rw [TxInv, hphase] at h
    obtain ⟨⟨hworking, hone, hlimit⟩, hcnt, hpos⟩ := h
    have hlim : r.len < 65536 := hlimit
    rw [txAdvance, hphase]
    exact ⟨⟨hworking, hone, hlimit⟩, hcnt, (pos_succ_toNat (by omega)).trans (congrArg (· + 1) hpos)⟩
  | crcl =>
    rw [TxInv, hphase] at h
    obtain ⟨⟨hworking, hone, hlimit⟩, hcnt, hpos⟩ := h
    have hlim : r.len < 65536 := hlimit
    rw [txAdvance, hphase]
    exact ⟨⟨hworking, hone, hlimit⟩, hcnt, (pos_succ_toNat (by omega)).trans (congrArg (· + 1) hpos)⟩
  | term =>
    rw [TxInv, hphase] at h
    obtain ⟨⟨⟨-, hcause, -⟩, hone, hlimit⟩, hcnt, hpos⟩ := h
    have hlim : r.len < 65536 := hlimit
    rw [txAdvance, hphase]
    exact .inr (.inl ⟨rfl, hcause, hone, hlimit, hcnt, rfl,
      (pos_succ_toNat (by omega)).trans (congrArg (· + 1) hpos)⟩)

theorem txStep_keeps_inv {s t : State} (hs : TxInv s.tx) (h : txStep s = .next t) : TxInv t.tx := by
  obtain ⟨-, rfl⟩ | ⟨hphase, rfl⟩ | ⟨hemits, -, -, rfl⟩ := txStep_cases h
  · exact hs
  · exact txInv_txChecked hphase hs
  · exact txInv_txAdvance hemits hs _

/-- A position of a frame that TXF or RXD can hold stands in its register as it is. -/
theorem ofNat_frameSize_toNat (f : Format) {n : Nat} (h : n < 65536) :
    (BitVec.ofNat 17 (frameSize f n)).toNat = frameSize f n := by
  have hmax : frameSize f n ≤ 65541 := frameSize_le_maxFrame f n (Nat.le_of_lt_succ h)
  rw [BitVec.toNat_ofNat, Nat.mod_eq_of_lt (by omega)]

theorem performEncode_txInv (n : Nat) (s : State) : TxInv (performEncode n (txStarted n s)).tx := by
  cases hf : encodeFault n with
  | some c =>
    have hstep := txStep_check (s := txStarted n s) rfl
    rw [txStarted_tx, TxRegs.started, hf] at hstep
    rw [performEncode_of_fault hf]
    exact txStep_keeps_inv (txInv_started n) hstep
  | none =>
    obtain ⟨hpos, hlim⟩ := (encodeFault_eq_none_iff n).mp hf
    have hsize : (BitVec.ofNat 17 (frameSize (formatFor n) n)).toNat = frameSize (formatFor n) n :=
      ofNat_frameSize_toNat _ hlim
    have hcnt : (BitVec.ofNat 16 n).toNat = n := by rw [BitVec.toNat_ofNat, Nat.mod_eq_of_lt hlim]
    have hregs := deliverFrame_tx_started n s
    rw [encodeFrame_payloadOperand_length] at hregs
    rw [performEncode_of_no_fault hf]
    change TxInv (deliverFrame (payloadOperand n s) (txStarted n s)).tx
    rw [hregs]
    exact .inr (.inl ⟨rfl, rfl, hpos, hlim, hcnt, rfl, hsize⟩)

/-- Settles O59: a start sets the registers of T_CHECK, the steps keep the sums of their phases, and a whole
operation leaves what the last step does. -/
theorem stepKeepsFramerInvariant : Obligations.StepKeepsFramerInvariant := by
  unfold Obligations.StepKeepsFramerInvariant
  intro s t hs hstep
  have heffect := turnEffect_of_step hstep
  generalize nextTurn s = turn at heffect
  cases heffect with
  | notTaken | startRx | answer | writeTxpay | writeRxbuf => exact hs
  | startTx n => exact txInv_started n
  | encode key n => exact performEncode_txInv n (popTurn s)
  | decode key n mode =>
    obtain ⟨⟨htx, -⟩, -⟩ :=
      performDecode_frame (n := n) (mode := mode) (s := rxStarted n mode (popTurn s)) rfl
    rw [htx]
    exact hs
  | txf _ hunit => exact txStep_keeps_inv (s := popTurn s) hs hunit
  | rxd _ hunit =>
    rw [rxStep_eq_withRxOf hunit]
    exact hs
  | reset => exact txInv_reset

end Sys2Proof.Machine

/-! PROOFS, 10_state.md. What every step keeps of the registers of RXD (R13, R16 to R18), that reset meets the
invariants, and that unbounded buffers never stop the machine (20_memory.md R39). -/

namespace Sys2Proof.Machine

/-! ### The registers of RXD -/

theorem rxInv_started (n : Nat) (mode : ErrMode) : RxInv (RxRegs.started n mode) :=
  ⟨⟨⟨rfl, rfl, rfl⟩, rfl, rfl, rfl, rfl, rfl, rfl⟩, rfl, rfl, rfl, rfl⟩

theorem rxInv_reset : RxInv RxRegs.reset := ⟨Nat.le_refl 0, .inl ⟨.inl rfl, rfl, rfl⟩⟩

/-- Ending without a frame needs only that no byte beyond the snapshot was read. -/
theorem rxInv_rxNoFrame {r : RxRegs} (h : r.pos.toNat ≤ r.n) : RxInv (rxNoFrame r) :=
  ⟨h, .inl ⟨.inr rfl, rfl, rfl⟩⟩

theorem rxInv_rxSized {r : RxRegs} (hphase : r.phase = .size) (h : RxInv r) : RxInv (rxSized r) := by
  rw [RxInv, hphase] at h
  obtain ⟨⟨hworking, hcnt, -, hflags, -, -, -⟩, hle, hpos, hidx⟩ := h
  have hpayidx : r.payidx = 2 ∨ r.payidx = 3 := hidx.imp_left And.left
  have hlen := r.paylen.isLt
  have hsize : (BitVec.ofNat 17 (r.payidx.toNat + r.paylen.toNat + 3)).toNat =
      r.payidx.toNat + r.paylen.toNat + 3 := by
    rw [← sizeSum_eq_ofNat, sizeSum_toNat]
  rw [rxSized]
  split_ifs with hlt hzero
  · exact rxInv_rxNoFrame hle
  · have hframe : RxInFrame { r with
        fsize := BitVec.ofNat 17 (r.payidx.toNat + r.paylen.toNat + 3), flags := r.flags ||| 0b0011#4
        phase := .crch } :=
      ⟨hworking, hpayidx, by rw [hflags]; rfl, hsize, hsize.trans_le (Nat.not_lt.mp hlt)⟩
    exact ⟨hframe, hcnt.trans hzero.symm, by rw [hzero]; exact hpos⟩
  · have hframe : RxInFrame { r with
        fsize := BitVec.ofNat 17 (r.payidx.toNat + r.paylen.toNat + 3), flags := r.flags ||| 0b0011#4
        phase := .pay } :=
      ⟨hworking, hpayidx, by rw [hflags]; rfl, hsize, hsize.trans_le (Nat.not_lt.mp hlt)⟩
    refine ⟨hframe, ?_, ?_⟩
    · rw [hcnt]
      bv_omega
    · rw [hcnt]
      exact hpos

theorem five_le_fsize_of_rxInFrame {r : RxRegs} (h : RxInFrame r) : 5 ≤ r.fsize.toNat := by
  obtain ⟨-, hpayidx, -, hsize, -⟩ := h
  rw [Config.footerSize] at hsize
  have hidx : r.payidx.toNat = 2 ∨ r.payidx.toNat = 3 :=
    hpayidx.imp (congrArg BitVec.toNat) (congrArg BitVec.toNat)
  omega

theorem rxInv_rxJudged {r : RxRegs} (hphase : r.phase = .check) (h : RxInv r) : RxInv (rxJudged r) := by
  rw [RxInv, hphase] at h
  obtain ⟨hframe, -, hpos⟩ := h
  have hfive := five_le_fsize_of_rxInFrame hframe
  obtain ⟨-, -, -, -, hn⟩ := hframe
  have hle : r.pos.toNat ≤ r.n := by rwa [hpos]
  rw [rxJudged]
  split_ifs
  · exact ⟨hle, .inr (.inl ⟨.inl rfl, rfl, rfl, hfive, hn⟩)⟩
  · exact ⟨hle, .inr (.inr ⟨rfl, RxCause.noConfusion, rfl⟩)⟩
  · exact ⟨hle, .inr (.inl ⟨.inr rfl, rfl, rfl, hfive, hn⟩)⟩
  · exact ⟨hle, .inr (.inr ⟨rfl, RxCause.noConfusion, rfl⟩)⟩

theorem rxInv_rxSettle {r : RxRegs} (hreads : rxReads r = false) (h : RxInv r) : RxInv (rxSettle r) := by
  cases hphase : r.phase with
  | idle =>
    rw [rxSettle, hphase]
    exact h
  | size =>
    rw [rxSettle, hphase]
    exact rxInv_rxSized hphase h
  | check =>
    rw [rxSettle, hphase]
    exact rxInv_rxJudged hphase h
  | mark =>
    rw [RxInv, hphase] at h
    obtain ⟨-, hpos, -⟩ := h
    rw [rxSettle, hphase]
    exact rxInv_rxNoFrame (by rw [hpos]; exact Nat.zero_le _)
  | lenh =>
    rw [RxInv, hphase] at h
    obtain ⟨-, hpos, hn, -⟩ := h
    rw [rxSettle, hphase]
    exact rxInv_rxNoFrame (by rw [hpos]; exact hn)
  | lenl =>
    rw [RxInv, hphase] at h
    obtain ⟨-, hle, -⟩ := h
    rw [rxSettle, hphase]
    exact rxInv_rxNoFrame hle
  | pay | crch | crcl | term => rw [rxReads, hphase] at hreads; cases hreads

theorem rxInv_rxAdvance_mark {r : RxRegs} (hphase : r.phase = .mark) (hn : r.n ≠ 0) (h : RxInv r) (b : Byte) :
    RxInv (rxAdvance b r) := by
  rw [RxInv, hphase] at h
  obtain ⟨hheader, hpos, -, -, hpaylen⟩ := h
  have hpos' : r.pos + 1 = 1 := by rw [hpos]; rfl
  rw [rxAdvance, hphase, hpos']
  dsimp only
  rw [rxMarked]
  split_ifs
  · exact ⟨hheader, Nat.pos_of_ne_zero hn, .inl ⟨rfl, rfl, hpaylen⟩⟩
  · exact ⟨hheader, rfl, Nat.pos_of_ne_zero hn, rfl, hpaylen⟩
  · exact rxInv_rxNoFrame (Nat.pos_of_ne_zero hn)

theorem rxInv_rxAdvance_lenl {r : RxRegs} (hphase : r.phase = .lenl) (hlt : r.pos.toNat < r.n) (h : RxInv r)
    (b : Byte) : RxInv (rxAdvance b r) := by
  rw [RxInv, hphase] at h
  obtain ⟨hheader, -, hcase⟩ := h
  rw [rxAdvance, hphase]
  obtain ⟨hidx, hpos, hpaylen⟩ | ⟨hidx, hpos, -⟩ := hcase
  · rw [hpos] at hlt ⊢
    refine ⟨hheader, hlt, ?_, .inl ⟨hidx, ?_⟩⟩
    · change _ = r.payidx.toNat
      rw [hidx]
      rfl
    · change hiByte (withLow r.paylen b) = 0
      rw [withLow, hiByte_joinBytes, hpaylen]
      rfl
  · rw [hpos] at hlt ⊢
    refine ⟨hheader, hlt, ?_, .inr hidx⟩
    change _ = r.payidx.toNat
    rw [hidx]
    rfl

theorem rxInv_rxAdvance_pay {r : RxRegs} (hphase : r.phase = .pay) (h : RxInv r) (b : Byte) :
    RxInv (rxAdvance b r) := by
  rw [RxInv, hphase] at h
  obtain ⟨hframe, hcnt, hpos⟩ := h
  have hlen := r.paylen.isLt
  have hidx := r.payidx.isLt
  have hpos' : (r.pos + 1).toNat = r.pos.toNat + 1 := pos_succ_toNat (by omega)
  have hcnt' : (r.cnt + 1).toNat = r.cnt.toNat + 1 := by bv_omega
  rw [rxAdvance, hphase]
  dsimp only
  split_ifs with hlast
  · refine ⟨hframe, hlast, ?_⟩
    change (r.pos + 1).toNat = r.payidx.toNat + r.paylen.toNat
    rw [← hlast]
    omega
  · refine ⟨hframe, ?_, ?_⟩
    · change (r.cnt + 1).toNat < r.paylen.toNat
      have hne : (r.cnt + 1).toNat ≠ r.paylen.toNat := fun heq => hlast (BitVec.eq_of_toNat_eq heq)
      omega
    · change (r.pos + 1).toNat = r.payidx.toNat + (r.cnt + 1).toNat
      omega

/-- A step of RXD that fetches moves RX_POS by one within the snapshot, and each phase names the sum. -/
theorem rxInv_rxAdvance {r : RxRegs} (hreads : rxReads r = true) (h : RxInv r) (b : Byte) :
    RxInv (rxAdvance b r) := by
  have hlen := r.paylen.isLt
  have hidx := r.payidx.isLt
  cases hphase : r.phase with
  | idle | size | check => rw [rxReads, hphase] at hreads; cases hreads
  | mark => exact rxInv_rxAdvance_mark hphase (by simpa [rxReads, hphase] using hreads) h b
  | lenl => exact rxInv_rxAdvance_lenl hphase (by simpa [rxReads, hphase] using hreads) h b
  | pay => exact rxInv_rxAdvance_pay hphase h b
  | lenh =>
    have hlt : r.pos.toNat < r.n := by simpa [rxReads, hphase] using hreads
    rw [RxInv, hphase] at h
    obtain ⟨hheader, hpos, -, hthree, hpaylen⟩ := h
    rw [rxAdvance, hphase, hpos]
    rw [hpos] at hlt
    refine ⟨hheader, hlt, .inr ⟨hthree, rfl, ?_⟩⟩
    change loByte (withHigh r.paylen b) = 0
    rw [withHigh, loByte_joinBytes, hpaylen]
    rfl
  | crch =>
    rw [RxInv, hphase] at h
    obtain ⟨hframe, hcnt, hpos⟩ := h
    rw [rxAdvance, hphase]
    exact ⟨hframe, hcnt, (pos_succ_toNat (by omega)).trans (congrArg (· + 1) hpos)⟩
  | crcl =>
    rw [RxInv, hphase] at h
    obtain ⟨hframe, hcnt, hpos⟩ := h
    rw [rxAdvance, hphase]
    exact ⟨hframe, hcnt, (pos_succ_toNat (by omega)).trans (congrArg (· + 1) hpos)⟩
  | term =>
    have hlast := pos_succ_of_rxInv_term hphase h
    rw [RxInv, hphase] at h
    obtain ⟨hframe, hcnt, -⟩ := h
    rw [rxAdvance, hphase]
    exact ⟨hframe, hcnt, hlast⟩

theorem rxStep_keeps_inv {s t : State} (hs : RxInv s.rx) (h : rxStep exec s = .next t) : RxInv t.rx := by
  obtain ⟨hreads, rfl⟩ | ⟨hreads, -, -, rfl⟩ := rxStep_cases h
  · exact rxInv_rxSettle hreads hs
  · exact rxInv_rxAdvance hreads hs _

/-! ### A whole DECODE leaves registers at rest -/

theorem payidxOf_toNat (f : Format) : (payidxOf f).toNat = f.headerSize := by
  cases f <;> rfl

theorem maxLen_lt (f : Format) : f.maxLen < 65536 := by
  cases f <;> decide

theorem payload_length_lt {f : Frame} (h : f.wf = true) : f.payload.length < 65536 :=
  Nat.lt_of_le_of_lt (of_decide_eq_true h) (maxLen_lt f.format)

theorem rxInv_unjudgedRegs {f : Frame} {n : Nat} {mode : ErrMode} (hwf : f.wf = true) (hle : frameTotal f ≤ n) :
    RxInv (unjudgedRegs f (RxRegs.started n mode)) := by
  have hlim := payload_length_lt hwf
  have hsize : (BitVec.ofNat 17 (frameTotal f)).toNat = frameTotal f := ofNat_frameSize_toNat f.format hlim
  have hlen : (BitVec.ofNat 16 f.payload.length).toNat = f.payload.length := by
    rw [BitVec.toNat_ofNat, Nat.mod_eq_of_lt hlim]
  refine ⟨⟨⟨rfl, rfl, rfl⟩, ?_, rfl, ?_, hsize.trans_le hle⟩, rfl, rfl⟩
  · change payidxOf f.format = 2 ∨ payidxOf f.format = 3
    cases f.format
    · exact .inl rfl
    · exact .inr rfl
  · change (BitVec.ofNat 17 (frameTotal f)).toNat =
      (payidxOf f.format).toNat + (BitVec.ofNat 16 f.payload.length).toNat + Config.footerSize
    rw [hsize, hlen, payidxOf_toNat]
    rfl

/-- How far each reason lets RXD read: never beyond the buffer. -/
theorem rejectRegs_pos_le {b : List Byte} {e : FrameReject} (h : RejectSays b e) (mode : ErrMode) :
    (rejectRegs e (RxRegs.started b.length mode)).pos.toNat ≤ b.length := by
  cases e with
  | empty => exact Nat.zero_le _
  | unknownMarker m =>
    obtain ⟨-, -, r, rfl⟩ := h
    exact Nat.succ_le_succ (Nat.zero_le _)
  | headerShort f present =>
    obtain ⟨rfl, -⟩ := h
    exact Nat.mod_le _ _
  | sizeShort f len =>
    obtain ⟨hheader, -⟩ := h
    obtain ⟨-, r, rfl⟩ := eq_headerBytes_append_of_decodeHeader hheader
    refine Nat.le_trans (Nat.mod_le _ _) ?_
    rw [List.length_append, headerBytes_length]
    exact Nat.le_add_right _ _

theorem performDecode_rxInv (n : Nat) (mode : ErrMode) (s : State) :
    RxInv (performDecode n mode (rxStarted n mode s)).rx := by
  have hlen := bufferOperand_length n s
  cases hf : decodeFrame (bufferOperand n s) with
  | error e =>
    have hpos := rejectRegs_pos_le (rejectSays_of_decodeFrame hf) mode
    rw [hlen] at hpos
    rw [performDecode_eq_of_reject (s := rxStarted n mode s) hf]
    refine rxInv_rxNoFrame (Nat.le_trans hpos (Nat.le_of_eq ?_))
    cases e <;> rfl
  | ok f =>
    obtain ⟨hwf, -⟩ := decodeFrame_eq_ok_iff.mp hf
    have hle := frameTotal_le_length hf
    rw [hlen] at hle
    rw [performDecode_eq_of_frame (mode := mode) (s := rxStarted n mode s) rfl hf]
    exact rxInv_rxJudged rfl (rxInv_unjudgedRegs hwf hle)

/-- Settles O60: a start sets the registers of D_MARK, the steps keep the sums of their phases, and a whole
operation leaves what the last step does. -/
theorem stepKeepsDeframerInvariant : Obligations.StepKeepsDeframerInvariant := by
  unfold Obligations.StepKeepsDeframerInvariant
  intro s t hs hstep
  have heffect := turnEffect_of_step hstep
  generalize nextTurn s = turn at heffect
  cases heffect with
  | notTaken | startTx | answer | writeTxpay | writeRxbuf => exact hs
  | startRx n mode => exact rxInv_started n mode
  | decode key n mode => exact performDecode_rxInv n mode (popTurn s)
  | encode key n =>
    obtain ⟨-, ⟨hrx, -⟩, -⟩ := performEncode_frame n (txStarted n (popTurn s))
    rw [hrx]
    exact hs
  | txf _ hunit =>
    rw [txStep_eq_withTxOf hunit]
    exact hs
  | rxd _ hunit => exact rxStep_keeps_inv (s := popTurn s) hs hunit
  | reset => exact rxInv_reset

/-- Settles O57: reset leaves both units at rest and the buffers as they were at power-up. -/
theorem resetMeetsInvariants : Obligations.ResetMeetsInvariants := by
  unfold Obligations.ResetMeetsInvariants
  exact ⟨reset_buffers_wf, ⟨rfl, rfl, rfl, rfl⟩, txInv_reset, rxInv_reset⟩

/-! ### Unbounded buffers (20_memory.md R39) -/

theorem Memory.holds_of_cap_none {m : Memory} (h : m.cap = none) (i : Nat) : m.holds i = true := by
  simp [Memory.holds, h]

theorem Memory.missing_of_cap_none {m : Memory} (h : m.cap = none) (i n : Nat) : m.missing i n = none := by
  simp [Memory.missing, h]

theorem startTxThen_completes {s : State} (h : Unbounded s) (n : Nat) (k : State → State) :
    ∃ t, startTxThen n s k = .next t := by
  obtain ⟨hpay, hfrm, -, -⟩ := h
  cases hbusy : txBusy s with
  | true => exact ⟨s, startTxThen_next.mpr (.inl ⟨hbusy, rfl⟩)⟩
  | false => exact ⟨_, startTxThen_next.mpr (.inr ⟨hbusy, txTooSmall_unbounded n s hpay hfrm, rfl⟩)⟩

theorem startRxThen_completes {s : State} (h : Unbounded s) (n : Nat) (mode : ErrMode) (k : State → State) :
    ∃ t, startRxThen n mode s k = .next t := by
  obtain ⟨-, -, -, hpay⟩ := h
  cases htakes : rxTakes n s with
  | false => exact ⟨s, startRxThen_next.mpr (.inl ⟨htakes, rfl⟩)⟩
  | true => exact ⟨_, startRxThen_next.mpr (.inr ⟨htakes, rxTooSmall_unbounded n s hpay, rfl⟩)⟩

theorem exec_hostAct_completes {s : State} (h : Unbounded s) (a : HostAct) : ∃ t, exec a.instr s = .next t := by
  have hbounds := h
  obtain ⟨hpay, hfrm, hbuf, hrxpay⟩ := hbounds
  cases a with
  | startTx n => exact startTxThen_completes h n id
  | startRx n mode => exact startRxThen_completes h n mode id
  | poll u => exact ⟨_, rfl⟩
  | read target =>
    cases target with
    | reg r => exact ⟨_, rfl⟩
    | txfrm i => exact ⟨_, readOutput_of_holds (Memory.holds_of_cap_none hfrm i) s⟩
    | rxpay i => exact ⟨_, readOutput_of_holds (Memory.holds_of_cap_none hrxpay i) s⟩
  | writeTxpay i bytes => exact ⟨_, execWriteTxpay_of_missing_none (Memory.missing_of_cap_none hpay _ _)⟩
  | writeRxbuf i bytes => exact ⟨_, execWriteRxbuf_of_missing_none (Memory.missing_of_cap_none hbuf _ _)⟩

theorem txStep_completes {s : State} (h : Unbounded s) : ∃ t, txStep s = .next t := by
  obtain ⟨hpay, hfrm, -, -⟩ := h
  cases hemits : s.tx.phase.emits with
  | true =>
    exact ⟨_, txStep_of_emits hemits (fun _ => Memory.holds_of_cap_none hpay _) (Memory.holds_of_cap_none hfrm _)⟩
  | false =>
    cases hphase : s.tx.phase with
    | idle => exact ⟨_, txStep_idle s hphase⟩
    | check => exact ⟨_, txStep_check_eq hphase⟩
    | _ => rw [hphase] at hemits; cases hemits

theorem rxStep_completes {s : State} (h : Unbounded s) : ∃ t, rxStep exec s = .next t := by
  obtain ⟨-, -, hbuf, hpay⟩ := h
  cases hreads : rxReads s.rx with
  | true =>
    exact ⟨_, rxStep_of_reads hreads (Memory.holds_of_cap_none hbuf _) (fun _ => Memory.holds_of_cap_none hpay _)⟩
  | false => exact ⟨_, rxStep_of_not_reads hreads⟩

theorem takeTurn_completes {s : State} (h : Unbounded s) (turn : Turn) : ∃ t, takeTurn turn s = .next t := by
  cases turn with
  | host a => exact exec_hostAct_completes h a
  | op key n =>
    rw [takeTurn_op]
    obtain hop | ⟨mode, hop⟩ := decodeOpsel_cases key n
    · rw [hop]
      exact startTxThen_completes h n _
    · rw [hop, exec_decodeInstr]
      exact startRxThen_completes h n mode _
  | unit u =>
    cases u with
    | txf => exact txStep_completes h
    | rxd => exact rxStep_completes h
  | reset => exact ⟨_, rfl⟩

theorem txStep_caps {s t : State} (h : txStep s = .next t) : t.txfrm.cap = s.txfrm.cap := by
  obtain ⟨-, rfl⟩ | ⟨-, rfl⟩ | ⟨-, -, -, rfl⟩ := txStep_cases h <;> rfl

theorem rxStep_caps {s t : State} (h : rxStep exec s = .next t) : t.rxpay.cap = s.rxpay.cap := by
  obtain ⟨-, rfl⟩ | ⟨-, -, -, rfl⟩ := rxStep_cases h
  · rfl
  · rw [rxTaken_rxpay]
    split <;> rfl

/-- No turn changes a capacity. -/
theorem turnEffect_keeps_unbounded {s t : State} {turn : Turn} (hs : Unbounded s) (h : TurnEffect s turn t) :
    Unbounded t := by
  obtain ⟨hpay, hfrm, hbuf, hrxpay⟩ := hs
  cases h with
  | notTaken | startTx | startRx | answer | reset => exact ⟨hpay, hfrm, hbuf, hrxpay⟩
  | encode key n =>
    obtain ⟨-, ⟨-, htxpay, hrxbuf, hout, -⟩, bytes, hbytes⟩ := performEncode_frame n (txStarted n s)
    refine ⟨by rw [htxpay]; exact hpay, ?_, by rw [hrxbuf]; exact hbuf, by rw [hout]; exact hrxpay⟩
    rw [hbytes _ rfl, Memory.writeBytes_cap]
    exact hfrm
  | decode key n mode =>
    obtain ⟨⟨-, htxpay, htxfrm, hrxbuf, -⟩, -⟩ :=
      performDecode_frame (n := n) (mode := mode) (s := rxStarted n mode s) rfl
    obtain ⟨bytes, hbytes⟩ := performDecode_rxpay n mode (rxStarted n mode s)
    refine ⟨by rw [htxpay]; exact hpay, by rw [htxfrm]; exact hfrm, by rw [hrxbuf]; exact hbuf, ?_⟩
    rw [hbytes _ rfl, Memory.writeBytes_cap]
    exact hrxpay
  | writeTxpay => exact ⟨(Memory.writeBytes_cap _ _ _).trans hpay, hfrm, hbuf, hrxpay⟩
  | writeRxbuf => exact ⟨hpay, hfrm, (Memory.writeBytes_cap _ _ _).trans hbuf, hrxpay⟩
  | txf _ hstep =>
    obtain ⟨htxpay, -⟩ := txStep_inputs_eq hstep
    have hout := txStep_caps hstep
    have hside := txStep_eq_withTxOf hstep
    exact ⟨by rw [htxpay]; exact hpay, hout.trans hfrm, by rw [hside]; exact hbuf, by rw [hside]; exact hrxpay⟩
  | rxd _ hstep =>
    obtain ⟨hrxbuf, -⟩ := rxStep_inputs_eq hstep
    have hout := rxStep_caps hstep
    have hside := rxStep_eq_withRxOf hstep
    exact ⟨by rw [hside]; exact hpay, by rw [hside]; exact hfrm, by rw [hrxbuf]; exact hbuf, hout.trans hrxpay⟩

/-- Settles O56: every way to stop names an index or a buffer at a capacity. -/
theorem defaultMachineNeverStops : Obligations.DefaultMachineNeverStops := by
  unfold Obligations.DefaultMachineNeverStops
  intro s hs
  obtain ⟨t, hstep⟩ := takeTurn_completes (s := popTurn s) hs (nextTurn s)
  exact ⟨t, hstep, turnEffect_keeps_unbounded (s := popTurn s) hs (turnEffect_of_takeTurn hstep)⟩

end Sys2Proof.Machine

/-! PROOFS, 41_framer.md. Runs of a unit's turns, and the run of TXF from its start: it emits the frame byte by byte
and leaves what ENCODE leaves (R96 to R106). -/

namespace Sys2Proof.Machine

/-! ### Runs of one unit -/

/-- `k` steps of a unit lead from one state to another. -/
inductive UnitRuns (u : CodecUnit) : Nat → State → State → Prop
  | zero (s : State) : UnitRuns u 0 s s
  | succ {k : Nat} {s t v : State} (hstep : takeTurn (.unit u) s = .next t) (hrest : UnitRuns u k t v) :
      UnitRuns u (k + 1) s v

namespace UnitRuns

variable {u : CodecUnit} {j k : Nat} {s t v : State}

theorem single (h : takeTurn (.unit u) s = .next t) : UnitRuns u 1 s t := .succ h (.zero t)

theorem trans (hfirst : UnitRuns u j s t) (hsecond : UnitRuns u k t v) : UnitRuns u (j + k) s v := by
  induction hfirst with
  | zero s => rwa [Nat.zero_add]
  | succ hstep _ ih =>
    rw [Nat.succ_add]
    exact .succ hstep (ih hsecond)

theorem snoc (h : UnitRuns u k s t) (hstep : takeTurn (.unit u) t = .next v) : UnitRuns u (k + 1) s v :=
  h.trans (single hstep)

/-- A run passes through a state after any number of its steps. -/
theorem split (h : UnitRuns u (j + k) s v) : ∃ t, UnitRuns u j s t ∧ UnitRuns u k t v := by
  induction j generalizing s with
  | zero => exact ⟨s, .zero s, by rwa [Nat.zero_add] at h⟩
  | succ j ih =>
    rw [Nat.succ_add] at h
    cases h with
    | succ hstep hrest =>
      obtain ⟨t, hfirst, hsecond⟩ := ih hrest
      exact ⟨t, .succ hstep hfirst, hsecond⟩

end UnitRuns

/-- An idle unit takes no step (60_exceptions.md R164). -/
theorem takeTurn_unit_idle {u : CodecUnit} {s : State} (h : busy u s = false) :
    takeTurn (.unit u) s = .next s := by
  cases u with
  | txf => exact txStep_idle s (txBusy_eq_false_iff.mp h)
  | rxd => exact rxStep_idle exec s (rxBusy_eq_false_iff.mp h)

theorem UnitRuns.of_idle {u : CodecUnit} {s : State} (h : busy u s = false) (k : Nat) : UnitRuns u k s s := by
  induction k with
  | zero => exact .zero s
  | succ k ih => exact .succ (takeTurn_unit_idle h) ih

theorem UnitRuns.eq_of_idle {u : CodecUnit} {k : Nat} {s t : State} (hrun : UnitRuns u k s t)
    (h : busy u s = false) : t = s := by
  induction hrun with
  | zero s => rfl
  | succ hstep _ ih =>
    rw [takeTurn_unit_idle h] at hstep
    cases hstep
    exact ih h

/-- A run whose last step is known is busy before it and rests after it. -/
theorem UnitRuns.idle_iff {u : CodecUnit} {c : Nat} {s t v : State} (hrun : UnitRuns u c s t)
    (hbusy : busy u t = true) (hlast : takeTurn (.unit u) t = .next v) (hidle : busy u v = false) (k : Nat) :
    ∃ w, UnitRuns u k s w ∧ (busy u w = false ↔ c + 1 ≤ k) ∧ (c + 1 ≤ k → w = v) := by
  obtain hle | hlt := Nat.lt_or_ge c k
  · obtain ⟨d, rfl⟩ := Nat.exists_eq_add_of_le hle
    exact ⟨v, (hrun.snoc hlast).trans (.of_idle hidle d), iff_of_true hidle hle, fun _ => rfl⟩
  · obtain ⟨d, rfl⟩ := Nat.exists_eq_add_of_le hlt
    obtain ⟨w, hfirst, hsecond⟩ := hrun.split
    have hw : busy u w ≠ false := by
      intro hrest
      rw [hsecond.eq_of_idle hrest, hrest] at hbusy
      cases hbusy
    exact ⟨w, hfirst, iff_of_false hw (by omega), fun hle => absurd hle (by omega)⟩

/-! ### Runs on the agenda -/

/-- A unit neither reads the agenda nor changes it. -/
theorem takeTurn_unit_agenda {u : CodecUnit} {s t : State} (h : takeTurn (.unit u) s = .next t) (a : List Turn) :
    takeTurn (.unit u) { s with agenda := a } = .next { t with agenda := a } ∧ t.agenda = s.agenda := by
  cases u with
  | txf =>
    have hside := txStep_eq_withTxOf h
    have hstep := txStep_withTxOf h { s with agenda := a }
    exact ⟨by rw [hside]; exact hstep, by rw [hside]; rfl⟩
  | rxd =>
    have hside := rxStep_eq_withRxOf h
    have hstep := rxStep_withRxOf h { s with agenda := a }
    exact ⟨by rw [hside]; exact hstep, by rw [hside]; rfl⟩

/-- A run of a unit is the run of the machine whose agenda gives that unit its turns. -/
theorem steps_of_unitRuns {u : CodecUnit} {k : Nat} {s t : State} (h : UnitRuns u k s t) :
    steps k { s with agenda := List.replicate k (.unit u) ++ s.agenda } = .next t := by
  induction h with
  | zero s => rfl
  | @succ k s t v hstep _ ih =>
    obtain ⟨hturn, hagenda⟩ := takeTurn_unit_agenda hstep (List.replicate k (.unit u) ++ s.agenda)
    have hfirst : step { s with agenda := List.replicate (k + 1) (.unit u) ++ s.agenda } =
        .next { t with agenda := List.replicate k (.unit u) ++ s.agenda } :=
      (step_turn _ (.unit u) (List.replicate k (.unit u) ++ s.agenda) rfl).trans hturn
    rw [steps_succ_next _ _ _ hfirst, ← hagenda]
    exact ih

/-- A start that is taken, and the turns behind it. -/
theorem steps_start_units {u : CodecUnit} {a : HostAct} {k : Nat} {s v w : State} {rest : List Turn}
    (hagenda : s.agenda = .host a :: (List.replicate k (.unit u) ++ rest))
    (hstart : exec a.instr { s with agenda := List.replicate k (.unit u) ++ rest } =
      .next { v with agenda := List.replicate k (.unit u) ++ v.agenda }) (hrun : UnitRuns u k v w) :
    steps (k + 1) s = .next w := by
  rw [steps_succ_next _ _ _ ((step_turn _ _ _ hagenda).trans hstart)]
  exact steps_of_unitRuns hrun

theorem steps_refused {k : Nat} {s : State} {turn : Turn} {rest : List Turn} {r : Refusal}
    (hagenda : s.agenda = turn :: rest) (h : takeTurn turn { s with agenda := rest } = .refused r) :
    steps (k + 1) s = .refused r := by
  rw [steps, step_turn _ _ _ hagenda, h]

/-! ### TXF while it emits (41_framer.md R96, R99 to R104) -/

/-- TXF is about to send the frame of `p`, undisturbed, and both buffers have room. -/
structure FramerReady (p : List Byte) (s : State) : Prop where
  clean : s.txDisturbed = false
  nonempty : 1 ≤ p.length
  short : p.length < 65536
  operand : payloadOperand p.length s = p
  payRoom : s.txpay.fits p.length = true
  frmRoom : s.txfrm.fits (encodeFrame (frameFor p)).length = true

/-- TXF has emitted these bytes; its registers but TX_POS are those of `r`. -/
def txSent (s : State) (bytes : List Byte) (r : TxRegs) : State :=
  { s with txfrm := s.txfrm.writeBytes 0 bytes, tx := { r with pos := BitVec.ofNat 17 bytes.length } }

theorem Memory.writeBytes_snoc (m : Memory) (bytes : List Byte) (b : Byte) :
    (m.writeBytes 0 bytes).write bytes.length b = m.writeBytes 0 (bytes ++ [b]) := by
  rw [Memory.writeBytes_append, Nat.zero_add]
  rfl

theorem frameFor_length_lt {p : List Byte} (h : p.length < 65536) : (encodeFrame (frameFor p)).length < 131072 := by
  rw [encodeFrame_frameFor_length]
  split <;> omega

theorem txEmitted_txSent {s : State} {bytes : List Byte} {r : TxRegs} {b : Byte} (hclean : s.txDisturbed = false)
    (hlen : bytes.length < 131072) (hb : txByte (txSent s bytes r) = b) :
    txEmitted (txSent s bytes r) = { s with
      txfrm := s.txfrm.writeBytes 0 (bytes ++ [b])
      tx := txAdvance b { r with pos := BitVec.ofNat 17 bytes.length } } := by
  have hpos : (BitVec.ofNat 17 bytes.length).toNat = bytes.length := by
    rw [BitVec.toNat_ofNat, Nat.mod_eq_of_lt hlen]
  rw [txEmitted, hb]
  simp [txSent, hpos, Memory.writeBytes_snoc, hclean]

/-- One step of TXF inside the frame: the next byte, and the registers that `txAdvance` gives. -/
theorem FramerReady.takeTurn {p : List Byte} {s : State} (h : FramerReady p s) {bytes : List Byte} {r : TxRegs}
    {b : Byte} (hemits : r.phase.emits = true) (hin : r.phase = .pay → r.cnt.toNat < p.length)
    (hlen : bytes.length < (encodeFrame (frameFor p)).length) (hb : txByte (txSent s bytes r) = b) :
    Machine.takeTurn (.unit .txf) (txSent s bytes r) = .next { s with
      txfrm := s.txfrm.writeBytes 0 (bytes ++ [b])
      tx := txAdvance b { r with pos := BitVec.ofNat 17 bytes.length } } := by
  have hlen' : bytes.length < 131072 := Nat.lt_trans hlen (frameFor_length_lt h.short)
  have hpos : (BitVec.ofNat 17 bytes.length).toNat = bytes.length := by
    rw [BitVec.toNat_ofNat, Nat.mod_eq_of_lt hlen']
  have hout : (txSent s bytes r).txfrm.holds (txSent s bytes r).tx.pos.toNat = true := by
    simpa [txSent, hpos] using s.txfrm.holds_of_fits _ _ h.frmRoom hlen
  rw [takeTurn_txf, txStep_of_emits (s := txSent s bytes r) hemits
    (fun hpay => s.txpay.holds_of_fits _ _ h.payRoom (hin hpay)) hout, txEmitted_txSent h.clean hlen' hb]

/-- A step before the last one, which leaves the registers `r'` but for the position. -/
theorem FramerReady.emit {p : List Byte} {s : State} (h : FramerReady p s) {bytes : List Byte} {r r' : TxRegs}
    {b : Byte} (hemits : r.phase.emits = true) (hin : r.phase = .pay → r.cnt.toNat < p.length)
    (hlen : bytes.length < (encodeFrame (frameFor p)).length) (hb : txByte (txSent s bytes r) = b)
    (hr : ∀ q, txAdvance b { r with pos := q } = { r' with pos := q + 1 }) :
    Machine.takeTurn (.unit .txf) (txSent s bytes r) = .next (txSent s (bytes ++ [b]) r') := by
  rw [h.takeTurn hemits hin hlen hb, hr, txSent, List.length_append, List.length_singleton, BitVec.ofNat_add]
  rfl

theorem headerBytes_append_length_lt (p : List Byte) :
    (headerBytes (formatFor p.length) p.length ++ p).length + 2 < (encodeFrame (frameFor p)).length := by
  have hlen : (encodeFrame (frameFor p)).length =
      (headerBytes (formatFor p.length) p.length ++ p).length + 3 := List.length_append
  rw [hlen]
  exact Nat.lt_succ_self _

/-- The header (41_framer.md R99 to R101). -/
theorem FramerReady.header {p : List Byte} {s : State} (h : FramerReady p s) :
    UnitRuns .txf (formatFor p.length).headerSize
      (txSent s [] { TxRegs.started p.length with phase := .mark })
      (txSent s (headerBytes (formatFor p.length) p.length) { TxRegs.started p.length with phase := .pay }) := by
  have hlen : 2 < (encodeFrame (frameFor p)).length := Nat.lt_of_le_of_lt (Nat.le_add_left 2 _)
    (headerBytes_append_length_lt p)
  obtain hlt | hle := Nat.lt_or_ge p.length 256
  · rw [formatFor_of_lt hlt]
    refine .succ (t := txSent s [0x02#8] { TxRegs.started p.length with phase := .lenl }) ?mark (.single ?lenl)
    case mark =>
      refine h.emit (bytes := []) rfl TxPhase.noConfusion (Nat.lt_trans (by decide) hlen) ?_ fun q => ?_
      · exact congrArg Format.marker (formatFor_of_lt hlt)
      · simp [txAdvance, TxRegs.started, hlt]
    case lenl =>
      exact h.emit (bytes := [0x02#8]) (b := lenLow p.length) rfl TxPhase.noConfusion
        (Nat.lt_trans (by decide) hlen) rfl fun q => rfl
  · rw [formatFor_of_le hle]
    refine .succ (t := txSent s [0x03#8] { TxRegs.started p.length with phase := .lenh }) ?mark
      (.succ (t := txSent s [0x03#8, lenHigh p.length] { TxRegs.started p.length with phase := .lenl }) ?lenh
        (.single ?lenl))
    case mark =>
      refine h.emit (bytes := []) rfl TxPhase.noConfusion (Nat.lt_trans (by decide) hlen) ?_ fun q => ?_
      · exact congrArg Format.marker (formatFor_of_le hle)
      · simp [txAdvance, TxRegs.started, Nat.not_lt.mpr hle]
    case lenh =>
      exact h.emit (bytes := [0x03#8]) (b := lenHigh p.length) rfl TxPhase.noConfusion
        (Nat.lt_trans (by decide) hlen) rfl fun q => rfl
    case lenl =>
      exact h.emit (bytes := [0x03#8, lenHigh p.length]) (b := lenLow p.length) rfl TxPhase.noConfusion hlen rfl
        fun q => rfl

/-- The registers of TXF, but for TX_POS, when it has emitted `i` payload bytes (41_framer.md R102). -/
def txPaying (p : List Byte) (i : Nat) : TxRegs :=
  { TxRegs.started p.length with
    phase := if i < p.length then .pay else .crch
    cnt := BitVec.ofNat 16 i
    crc := crcOf (p.take i) }

theorem crcOf_snoc (p : List Byte) (b : Byte) : crcOf (p ++ [b]) = crcUpdate (crcOf p) b := by
  rw [crcOf_eq_crcFold, crcOf_eq_crcFold, crcFold_append]
  rfl

theorem txAdvance_txPaying {p : List Byte} {i : Nat} (hi : i < p.length) (hlim : p.length < 65536) (q : Pos) :
    txAdvance p[i] { txPaying p i with pos := q } = { txPaying p (i + 1) with pos := q + 1 } := by
  have hi' : (BitVec.ofNat 16 i).toNat = i := by rw [BitVec.toNat_ofNat, Nat.mod_eq_of_lt (by omega)]
  have hcnt : (BitVec.ofNat 16 i + 1).toNat = i + 1 := by rw [cnt_succ_toNat (by omega), hi']
  have hphase : (if (BitVec.ofNat 16 i + 1).toNat = p.length then TxPhase.crch else .pay) =
      if i + 1 < p.length then .pay else .crch := by
    rw [hcnt]
    by_cases hlast : i + 1 = p.length
    · rw [if_pos hlast, if_neg (by omega)]
    · rw [if_neg hlast, if_pos (by omega)]
  have hcrc : crcOf (p.take (i + 1)) = crcUpdate (crcOf (p.take i)) p[i] := by
    rw [← List.take_concat_get' p i hi, crcOf_snoc]
  simp only [txAdvance, txPaying, if_pos hi, hcrc, BitVec.ofNat_add]
  simp only [TxRegs.started]
  rw [← hphase]
  rfl

theorem read_of_payloadOperand {p : List Byte} {s : State} (h : payloadOperand p.length s = p) {i : Nat}
    (hi : i < p.length) : s.txpay.read .txpay i = p[i] := by
  have hread := s.txpay.readBytes_getElem? .txpay 0 p.length i hi
  rw [← payloadOperand, h, List.getElem?_eq_getElem hi, Nat.zero_add] at hread
  exact (Option.some.inj hread).symm

/-- The payload, byte by byte (41_framer.md R102). -/
theorem FramerReady.payload {p : List Byte} {s : State} (h : FramerReady p s) {i : Nat} (hi : i ≤ p.length) :
    UnitRuns .txf i
      (txSent s (headerBytes (formatFor p.length) p.length) { TxRegs.started p.length with phase := .pay })
      (txSent s (headerBytes (formatFor p.length) p.length ++ p.take i) (txPaying p i)) := by
  induction i with
  | zero =>
    have hstart : txPaying p 0 = { TxRegs.started p.length with phase := .pay } := by
      rw [txPaying, if_pos (show 0 < p.length from h.nonempty), List.take_zero]
      rfl
    rw [List.take_zero, List.append_nil, hstart]
    exact .zero _
  | succ i ih =>
    have hlt : i < p.length := hi
    have hcnt : (txPaying p i).cnt.toNat = i := by
      rw [txPaying, BitVec.toNat_ofNat, Nat.mod_eq_of_lt (Nat.lt_trans hlt h.short)]
    have hphase : (txPaying p i).phase = .pay := if_pos hlt
    have hlen := headerBytes_append_length_lt p
    refine (ih (Nat.le_of_lt hlt)).snoc ?_
    rw [← List.take_concat_get' p i hlt, ← List.append_assoc]
    refine h.emit (by rw [hphase]; rfl) (fun _ => by rwa [hcnt]) ?_ ?_ (txAdvance_txPaying hlt h.short)
    · rw [List.length_append] at hlen ⊢
      rw [List.length_take]
      omega
    · have hbyte : txByte (txSent s (headerBytes (formatFor p.length) p.length ++ p.take i) (txPaying p i)) =
          txpayByte s (txPaying p i).cnt.toNat := by
        rw [txByte, txSent, hphase]
        rfl
      rw [hbyte, hcnt, txpayByte_undisturbed h.clean, read_of_payloadOperand h.operand hlt]

/-- The CRC, up to the step that emits the terminator (41_framer.md R103). -/
theorem FramerReady.footer {p : List Byte} {s : State} (h : FramerReady p s) :
    UnitRuns .txf 2
      (txSent s (headerBytes (formatFor p.length) p.length ++ p) (txPaying p p.length))
      (txSent s (headerBytes (formatFor p.length) p.length ++ p ++ [hiByte (crcOf p)] ++ [loByte (crcOf p)])
        { txPaying p p.length with phase := .term }) := by
  have hlen := headerBytes_append_length_lt p
  have hphase : (txPaying p p.length).phase = .crch := if_neg (Nat.lt_irrefl _)
  have hcrc : (txPaying p p.length).crc = crcOf p := congrArg crcOf (List.take_length)
  refine .succ (t := txSent s (headerBytes (formatFor p.length) p.length ++ p ++ [hiByte (crcOf p)])
    { txPaying p p.length with phase := .crcl }) ?crch (.single ?crcl)
  case crch =>
    refine h.emit (by rw [hphase]; rfl) (fun hpay => by rw [hphase] at hpay; cases hpay) (by omega) ?_ fun q => ?_
    · simp [txByte, txSent, hphase, hcrc]
    · simp [txAdvance, hphase]
  case crcl =>
    refine h.emit rfl TxPhase.noConfusion (by rw [List.length_append, List.length_singleton]; omega) ?_ fun q => rfl
    simp [txByte, txSent, hcrc]

/-- T_TERM leaves what ENCODE delivers (41_framer.md R104, R105). -/
theorem FramerReady.last {p : List Byte} {s : State} (h : FramerReady p s)
    (hstarted : s.tx = TxRegs.started p.length) :
    Machine.takeTurn (.unit .txf)
      (txSent s (headerBytes (formatFor p.length) p.length ++ p ++ [hiByte (crcOf p)] ++ [loByte (crcOf p)])
        { txPaying p p.length with phase := .term }) = .next (deliverFrame p s) := by
  have hlen := headerBytes_append_length_lt p
  have hbody : (headerBytes (formatFor p.length) p.length ++ p ++ [hiByte (crcOf p)] ++ [loByte (crcOf p)]).length <
      (encodeFrame (frameFor p)).length := by
    rwa [List.length_append, List.length_append]
  have hframe : encodeFrame (frameFor p) =
      headerBytes (formatFor p.length) p.length ++ p ++ [hiByte (crcOf p)] ++ [loByte (crcOf p)] ++ [0x03#8] := by
    simp [encodeFrame, frameFor, Config.terminator]
  rw [h.takeTurn (b := 0x03#8) rfl TxPhase.noConfusion hbody rfl, deliverFrame, hframe, hstarted]
  simp only [txAdvance, txPaying, TxRegs.started, List.length_append, List.length_singleton, BitVec.ofNat_add,
    List.take_length]
  rfl

/-! ### A whole run (41_framer.md R105, R106) -/

theorem framerReady_started {n : Nat} {s : State} (hpos : 1 ≤ n) (hlim : n < 65536)
    (hroom : txTooSmall n s = none) : FramerReady (payloadOperand n s) (txStarted n s) := by
  obtain ⟨hpay, hfrm⟩ := (txTooSmall_eq_none_iff hpos hlim).mp hroom
  have hlen := payloadOperand_length n s
  exact
    { clean := rfl
      nonempty := by rwa [hlen]
      short := by rwa [hlen]
      operand := by rw [hlen]; rfl
      payRoom := by rwa [hlen]
      frmRoom := by rwa [encodeFrame_payloadOperand_length] }

/-- T_CHECK of a legal length. -/
theorem takeTurn_check_started {n : Nat} (hpos : 1 ≤ n) (hlim : n < 65536) (s : State) :
    takeTurn (.unit .txf) (txStarted n s) =
      .next (txSent (txStarted n s) [] { TxRegs.started n with phase := .mark }) := by
  rw [takeTurn_txf, txStep_check rfl, txStarted_tx, TxRegs.started, (encodeFault_eq_none_iff n).mpr ⟨hpos, hlim⟩]
  rfl

/-- The steps of TXF before the one that ends the operation. -/
def framerSteps (n : Nat) : Nat := if n = 0 ∨ 65536 ≤ n then 0 else frameSize (formatFor n) n

/-- From its start TXF runs through the frame, and its last step leaves what ENCODE leaves. -/
theorem framer_run {n : Nat} {s : State} (hroom : txTooSmall n s = none) :
    ∃ t, UnitRuns .txf (framerSteps n) (txStarted n s) t ∧ busy .txf t = true ∧
      takeTurn (.unit .txf) t = .next (performEncode n (txStarted n s)) := by
  rw [framerSteps]
  cases hf : encodeFault n with
  | some c =>
    have hillegal : n = 0 ∨ 65536 ≤ n := by
      by_contra hlegal
      rw [(encodeFault_eq_none_iff n).mpr (by omega)] at hf
      cases hf
    rw [if_pos hillegal]
    refine ⟨_, .zero _, rfl, ?_⟩
    rw [takeTurn_txf, txStep_check rfl, txStarted_tx, TxRegs.started, hf, performEncode_of_fault hf]
    rfl
  | none =>
    obtain ⟨hpos, hlim⟩ := (encodeFault_eq_none_iff n).mp hf
    have hlen := payloadOperand_length n s
    have hready := framerReady_started hpos hlim hroom
    generalize hp : payloadOperand n s = p at hlen hready
    subst hlen
    have hpayload := hready.payload (Nat.le_refl _)
    rw [List.take_length] at hpayload
    have hrun := UnitRuns.succ (takeTurn_check_started hpos hlim s)
      ((hready.header.trans hpayload).trans hready.footer)
    refine ⟨_, ?_, rfl, (hready.last rfl).trans ?_⟩
    · rw [if_neg (by omega), frameSize, Config.footerSize]
      exact hrun
    · rw [performEncode_of_no_fault hf, hready.operand]

theorem framerSteps_succ (n : Nat) :
    framerSteps n + 1 = if n = 0 ∨ 65536 ≤ n then 1 else if n < 256 then n + 6 else n + 7 := by
  rw [framerSteps, frameSize_formatFor]
  split_ifs <;> rfl

/-- START.TX and the turns of TXF behind it, when the operation fits. -/
theorem steps_startTx {s : State} {n k : Nat} {rest : List Turn} (hidle : s.tx.phase = .idle)
    (hroom : txTooSmall n s = none)
    (hagenda : s.agenda = .host (.startTx n) :: (List.replicate k (.unit .txf) ++ rest)) :
    ∃ t, steps (k + 1) s = .next t ∧ (t.tx.phase = .idle ↔ framerSteps n + 1 ≤ k) ∧
      (framerSteps n + 1 ≤ k → exec (.encodeOp n) { s with agenda := rest } = .next t) := by
  obtain ⟨t, hrun, hbusy, hlast⟩ := framer_run (s := { s with agenda := rest }) hroom
  have hdone : busy .txf (performEncode n (txStarted n { s with agenda := rest })) = false := by
    obtain ⟨hphase, -⟩ := performEncode_frame n (txStarted n { s with agenda := rest })
    exact txBusy_eq_false_iff.mpr hphase
  obtain ⟨w, hw, hiff, heq⟩ := hrun.idle_iff hbusy hlast hdone k
  refine ⟨w, steps_start_units hagenda ?_ hw, txBusy_eq_false_iff.symm.trans hiff, fun hk => ?_⟩
  · exact startTxThen_taken hidle hroom
  · rw [heq hk, exec_encodeOp]
    exact startTxThen_taken (s := { s with agenda := rest }) hidle hroom

/-- Settles O16: the step that ends the operation is the one after `framerSteps`. -/
theorem framerStepCount : Obligations.FramerStepCount := by
  unfold Obligations.FramerStepCount
  intro s n k rest hidle hroom hagenda
  obtain ⟨t, hsteps, hiff, -⟩ := steps_startTx hidle hroom hagenda
  rw [framerSteps_succ] at hiff
  exact ⟨t, hsteps, hiff⟩

/-- Settles O15: a start that does not fit is refused at both levels, and one that fits is `framer_run`. -/
theorem framerRefinesEncode : Obligations.FramerRefinesEncode := by
  unfold Obligations.FramerRefinesEncode
  intro s n k rest hidle hagenda hk
  cases hroom : txTooSmall n s with
  | some sp =>
    rw [steps_refused hagenda (startTxThen_of_tooSmall (sp := sp) hidle hroom), exec_encodeOp]
    exact (startTxThen_of_tooSmall (s := { s with agenda := rest }) hidle hroom).symm
  | none =>
    obtain ⟨t, hsteps, -, hexec⟩ := steps_startTx hidle hroom hagenda
    have hcount : framerSteps n + 1 ≤ k := by
      rw [framerSteps_succ]
      split_ifs <;> omega
    rw [hsteps, hexec hcount]

end Sys2Proof.Machine

/-! PROOFS, 42_deframer.md. The run of RXD from its start: it reads the snapshot byte by byte, as far as the class
of the snapshot lets it, and leaves what DECODE leaves (R120 to R133). -/

namespace Sys2Proof.Machine

/-! ### RXD while it reads (42_deframer.md R120) -/

/-- RXD reads the snapshot `b`, undisturbed. -/
structure DeframerReady (b : List Byte) (s : State) : Prop where
  clean : s.rxDisturbed = false
  operand : bufferOperand b.length s = b
  room : s.rxbuf.fits b.length = true

/-- RXD has these registers, and its output buffer is `m`. -/
def rxWith (s : State) (m : Memory) (r : RxRegs) : State := { s with rx := r, rxpay := m }

theorem rxbufByte_of_operand {b : List Byte} {s : State} (h : DeframerReady b s) {i : Nat} {c : Byte}
    (hc : b[i]? = some c) : rxbufByte s i = c := by
  obtain ⟨hi, -⟩ := List.getElem?_eq_some_iff.mp hc
  have hread := s.rxbuf.readBytes_getElem? .rxbuf 0 b.length i hi
  rw [← bufferOperand, h.operand, hc, Nat.zero_add] at hread
  rw [rxbufByte_undisturbed h.clean]
  exact (Option.some.inj hread).symm

/-- A fetch outside the payload. -/
theorem DeframerReady.fetch {b : List Byte} {s : State} (h : DeframerReady b s) {m : Memory} {r r' : RxRegs} {i : Nat}
    {c : Byte} (hreads : rxReads r = true) (hpay : r.phase ≠ .pay) (hpos : r.pos.toNat = i) (hc : b[i]? = some c)
    (hr : rxAdvance c r = r') : takeTurn (.unit .rxd) (rxWith s m r) = .next (rxWith s m r') := by
  obtain ⟨hi, -⟩ := List.getElem?_eq_some_iff.mp hc
  have hin : (rxWith s m r).rxbuf.holds (rxWith s m r).rx.pos.toNat = true :=
    s.rxbuf.holds_of_fits _ _ h.room (hpos ▸ hi)
  have hbyte : rxbufByte (rxWith s m r) (rxWith s m r).rx.pos.toNat = c :=
    hpos ▸ rxbufByte_of_operand h hc
  rw [takeTurn_rxd, rxStep_of_reads (s := rxWith s m r) hreads hin (fun hp => absurd hp hpay),
    rxTaken_eq (s := rxWith s m r) hpay hbyte]
  simp [rxWith, h.clean, hr]

/-- A fetch of a payload byte, which goes to the output buffer. -/
theorem DeframerReady.pay {b : List Byte} {s : State} (h : DeframerReady b s) {m : Memory} {r r' : RxRegs} {i : Nat}
    {c : Byte} (hphase : r.phase = .pay) (hpos : r.pos.toNat = i) (hc : b[i]? = some c)
    (hout : m.holds r.cnt.toNat = true) (hr : rxAdvance c r = r') :
    takeTurn (.unit .rxd) (rxWith s m r) = .next (rxWith s (m.write r.cnt.toNat c) r') := by
  obtain ⟨hi, -⟩ := List.getElem?_eq_some_iff.mp hc
  have hin : (rxWith s m r).rxbuf.holds (rxWith s m r).rx.pos.toNat = true :=
    s.rxbuf.holds_of_fits _ _ h.room (hpos ▸ hi)
  have hbyte : rxbufByte (rxWith s m r) (rxWith s m r).rx.pos.toNat = c :=
    hpos ▸ rxbufByte_of_operand h hc
  rw [takeTurn_rxd, rxStep_of_reads (s := rxWith s m r) (by simp [rxReads, rxWith, hphase]) hin (fun _ => hout),
    rxTaken, hbyte]
  simp [rxWith, hphase, h.clean, hr]

/-- A step without a fetch. -/
theorem takeTurn_rxWith_settle {s : State} {m : Memory} {r : RxRegs} (hreads : rxReads r = false) :
    takeTurn (.unit .rxd) (rxWith s m r) = .next (rxWith s m (rxSettle r)) :=
  rxStep_of_not_reads (s := rxWith s m r) hreads

/-! ### The header (42_deframer.md R122 to R125) -/

/-- The phase behind the marker of a format (42_deframer.md R122). -/
def markedPhase : Format → RxPhase
  | .short => .lenl
  | .long => .lenh

/-- The registers of RXD behind the marker of a format. -/
def formatRegs (f : Format) (r : RxRegs) : RxRegs :=
  { r with marker := f.marker, payidx := payidxOf f, pos := 1, phase := markedPhase f }

/-- The registers of RXD behind a header. -/
def headerRegs (f : Format) (len : Nat) (r : RxRegs) : RxRegs :=
  { r with
    marker := f.marker, payidx := payidxOf f, paylen := BitVec.ofNat 16 len
    pos := BitVec.ofNat 17 f.headerSize, phase := .size }

theorem rxAdvance_started_marker (f : Format) (n : Nat) (mode : ErrMode) :
    rxAdvance f.marker (RxRegs.started n mode) = formatRegs f (RxRegs.started n mode) := by
  cases f <;> rfl

theorem rxReads_started {n : Nat} (hn : n ≠ 0) (mode : ErrMode) : rxReads (RxRegs.started n mode) = true := by
  simp [rxReads, RxRegs.started, hn]

theorem DeframerReady.marker {f : Format} {r : List Byte} {s : State} (h : DeframerReady (f.marker :: r) s)
    (m : Memory) (mode : ErrMode) :
    takeTurn (.unit .rxd) (rxWith s m (RxRegs.started (r.length + 1) mode)) =
      .next (rxWith s m (formatRegs f (RxRegs.started (r.length + 1) mode))) :=
  h.fetch (rxReads_started (Nat.succ_ne_zero _) mode) RxPhase.noConfusion rfl rfl
    (rxAdvance_started_marker f _ mode)

theorem withLow_zero_loByte {n : Nat} (h : n < 256) :
    withLow 0x0000#16 (loByte (BitVec.ofNat 16 n)) = BitVec.ofNat 16 n := by
  apply BitVec.eq_of_toNat_eq
  rw [withLow, joinBytes_toNat, hiByte_toNat, loByte_toNat, BitVec.toNat_ofNat, BitVec.toNat_ofNat]
  omega

theorem withLow_withHigh (v w : Half) : withLow (withHigh v (hiByte w)) (loByte w) = w := by
  rw [withLow, withHigh, hiByte_joinBytes, joinBytes_hiByte_loByte]

theorem rxReads_formatRegs (f : Format) (n : Nat) (mode : ErrMode) :
    rxReads (formatRegs f (RxRegs.started n mode)) = decide (1 < n) := by
  cases f <;> rfl

theorem rxReads_long_high (hi : Byte) (n : Nat) (mode : ErrMode) :
    rxReads (rxAdvance hi (formatRegs .long (RxRegs.started n mode))) = decide (2 < n) := rfl

theorem rxAdvance_short_length {len : Nat} (h : len < 256) (n : Nat) (mode : ErrMode) :
    rxAdvance (loByte (BitVec.ofNat 16 len)) (formatRegs .short (RxRegs.started n mode)) =
      headerRegs .short len (RxRegs.started n mode) := by
  rw [headerRegs, ← withLow_zero_loByte h]
  simp only [withLow, loByte_joinBytes]
  rfl

theorem rxAdvance_long_length (len n : Nat) (mode : ErrMode) :
    rxAdvance (loByte (BitVec.ofNat 16 len)) (rxAdvance (hiByte (BitVec.ofNat 16 len))
      (formatRegs .long (RxRegs.started n mode))) = headerRegs .long len (RxRegs.started n mode) := by
  have hlen := withLow_withHigh 0x0000#16 (BitVec.ofNat 16 len)
  generalize hiByte (BitVec.ofNat 16 len) = hi, loByte (BitVec.ofNat 16 len) = lo at hlen
  rw [headerRegs, ← hlen]
  rfl

/-- The whole header, up to the step that sizes the frame. -/
theorem DeframerReady.header {f : Format} {len : Nat} {r : List Byte} {s : State}
    (h : DeframerReady (headerBytes f len ++ r) s) (hmax : len ≤ f.maxLen) (m : Memory) (mode : ErrMode) :
    UnitRuns .rxd f.headerSize
      (rxWith s m (RxRegs.started (headerBytes f len ++ r).length mode))
      (rxWith s m (headerRegs f len (RxRegs.started (headerBytes f len ++ r).length mode))) := by
  cases f with
  | short =>
    refine .succ (h.marker (f := .short) m mode) (.single (h.fetch (i := 1) ?_ RxPhase.noConfusion rfl rfl ?_))
    · simp [rxReads_formatRegs]
    · exact rxAdvance_short_length (Nat.lt_succ_of_le hmax) _ mode
  | long =>
    refine .succ (h.marker (f := .long) m mode)
      (.succ (h.fetch (i := 1) ?_ RxPhase.noConfusion rfl rfl rfl)
        (.single (h.fetch (i := 2) ?_ RxPhase.noConfusion rfl rfl ?_)))
    · simp [rxReads_formatRegs]
    · simp [rxReads_long_high]
    · exact rxAdvance_long_length len _ mode

/-- The sum of D_SIZE on the registers behind a header (42_deframer.md R125). -/
theorem payidx_add_paylen {f : Format} {len : Nat} (hmax : len ≤ f.maxLen) :
    (payidxOf f).toNat + (BitVec.ofNat 16 len).toNat + 3 = frameSize f len := by
  rw [payidxOf_toNat, BitVec.toNat_ofNat, Nat.mod_eq_of_lt (Nat.lt_of_le_of_lt hmax (maxLen_lt f))]
  rfl

theorem rxSettle_headerRegs (f : Format) (len : Nat) (r : RxRegs) :
    rxSettle (headerRegs f len r) = rxSized (headerRegs f len r) := rfl

theorem rxSized_headerRegs_of_incomplete {f : Format} {len n : Nat} (hmax : len ≤ f.maxLen)
    (hlt : n < frameSize f len) (mode : ErrMode) :
    rxSized (headerRegs f len (RxRegs.started n mode)) =
      rxNoFrame (rejectRegs (.sizeShort f len) (RxRegs.started n mode)) := by
  have hsum := payidx_add_paylen hmax
  simp only [rxSized, headerRegs, RxRegs.started, hsum, if_pos hlt]
  rfl

/-! ### The frame (42_deframer.md R126 to R130) -/

/-- The registers of RXD when `j` payload bytes of a complete frame are in RXPAY. -/
def rxPaying (f : Frame) (j : Nat) (r : RxRegs) : RxRegs :=
  { r with
    marker := f.format.marker
    payidx := payidxOf f.format
    paylen := BitVec.ofNat 16 f.payload.length
    fsize := BitVec.ofNat 17 (frameTotal f)
    flags := 0b0011#4
    cnt := BitVec.ofNat 16 j
    crc := crcOf (f.payload.take j)
    pos := BitVec.ofNat 17 (f.format.headerSize + j)
    phase := if j < f.payload.length then .pay else .crch }

theorem phase_of_paylen {f : Frame} (hwf : f.wf = true) :
    (if BitVec.ofNat 16 f.payload.length = 0 then RxPhase.crch else .pay) =
      if 0 < f.payload.length then .pay else .crch := by
  have hlen : (BitVec.ofNat 16 f.payload.length).toNat = f.payload.length := by
    rw [BitVec.toNat_ofNat, Nat.mod_eq_of_lt (payload_length_lt hwf)]
  have hiff : BitVec.ofNat 16 f.payload.length = 0 ↔ f.payload.length = 0 := by
    rw [← BitVec.toNat_inj, hlen]
    rfl
  by_cases hzero : f.payload.length = 0
  · rw [if_pos (hiff.mpr hzero), if_neg (by omega)]
  · rw [if_neg (mt hiff.mp hzero), if_pos (Nat.pos_of_ne_zero hzero)]

theorem rxSized_headerRegs_of_complete {f : Frame} {n : Nat} (hwf : f.wf = true) (hle : frameTotal f ≤ n)
    (mode : ErrMode) :
    rxSized (headerRegs f.format f.payload.length (RxRegs.started n mode)) =
      rxPaying f 0 (RxRegs.started n mode) := by
  have hsum := payidx_add_paylen (f := f.format) (of_decide_eq_true hwf)
  have hnot : ¬ n < frameSize f.format f.payload.length := Nat.not_lt.mpr hle
  simp only [rxSized, headerRegs, RxRegs.started, hsum, if_neg hnot, rxPaying]
  rw [← phase_of_paylen hwf, List.take_zero]
  rfl

/-- The bytes of a frame behind its header, where a buffer holds it. -/
theorem encodeFrame_getElem?_payload (f : Frame) (x : List Byte) {j : Nat} (hj : j < f.payload.length) :
    (encodeFrame f ++ x)[f.format.headerSize + j]? = some f.payload[j] := by
  rw [encodeFrame, List.append_assoc, List.append_assoc, List.getElem?_append_right (by simp),
    headerBytes_length, Nat.add_sub_cancel_left, List.getElem?_append_left hj, List.getElem?_eq_getElem hj]

theorem encodeFrame_getElem?_footer (f : Frame) (x : List Byte) (k : Nat) :
    (encodeFrame f ++ x)[f.format.headerSize + f.payload.length + k]? =
      ([hiByte f.crc, loByte f.crc, f.term] ++ x)[k]? := by
  rw [encodeFrame, List.append_assoc, List.getElem?_append_right (by simp), List.length_append,
    headerBytes_length, Nat.add_sub_cancel_left]

theorem frame_pos_toNat {f : Frame} (hwf : f.wf = true) {i : Nat} (hi : i ≤ frameTotal f) :
    (BitVec.ofNat 17 i).toNat = i := by
  have hmax : frameTotal f ≤ 65541 :=
    frameSize_le_maxFrame f.format _ (Nat.le_of_lt_succ (payload_length_lt hwf))
  rw [BitVec.toNat_ofNat, Nat.mod_eq_of_lt (by omega)]

theorem rxAdvance_rxPaying {f : Frame} {j : Nat} (hj : j < f.payload.length) (hwf : f.wf = true) (r : RxRegs) :
    rxAdvance f.payload[j] (rxPaying f j r) = rxPaying f (j + 1) r := by
  have hlim := payload_length_lt hwf
  have hphase : (if BitVec.ofNat 16 (j + 1) = BitVec.ofNat 16 f.payload.length then RxPhase.crch else .pay) =
      if j + 1 < f.payload.length then .pay else .crch := by
    have hiff : BitVec.ofNat 16 (j + 1) = BitVec.ofNat 16 f.payload.length ↔ j + 1 = f.payload.length := by
      rw [← BitVec.toNat_inj, BitVec.toNat_ofNat, BitVec.toNat_ofNat, Nat.mod_eq_of_lt (by omega),
        Nat.mod_eq_of_lt (by omega)]
    by_cases hlast : j + 1 = f.payload.length
    · rw [if_pos (hiff.mpr hlast), if_neg (by omega)]
    · rw [if_neg (mt hiff.mp hlast), if_pos (by omega)]
  have hcrc : crcOf (f.payload.take (j + 1)) = crcUpdate (crcOf (f.payload.take j)) f.payload[j] := by
    rw [← List.take_concat_get' _ j hj, crcOf_snoc]
  have hpos : BitVec.ofNat 17 (f.format.headerSize + (j + 1)) = BitVec.ofNat 17 (f.format.headerSize + j) + 1 :=
    BitVec.ofNat_add _ 1
  have hcnt : BitVec.ofNat 16 (j + 1) = BitVec.ofNat 16 j + 1 := BitVec.ofNat_add j 1
  rw [rxAdvance, show (rxPaying f j r).phase = .pay from if_pos hj]
  simp only [rxPaying, hcrc, ← hphase, hpos, hcnt]
  rfl

/-- The payload, byte by byte (42_deframer.md R126). -/
theorem DeframerReady.payload {f : Frame} {x : List Byte} {s : State} (h : DeframerReady (encodeFrame f ++ x) s)
    (hwf : f.wf = true) {m : Memory} (hfits : m.fits f.payload.length = true) (r : RxRegs) {j : Nat}
    (hj : j ≤ f.payload.length) :
    UnitRuns .rxd j (rxWith s m (rxPaying f 0 r))
      (rxWith s (m.writeBytes 0 (f.payload.take j)) (rxPaying f j r)) := by
  induction j with
  | zero => exact .zero _
  | succ j ih =>
    have hlt : j < f.payload.length := hj
    have hcnt : (rxPaying f j r).cnt.toNat = j := by
      rw [rxPaying, BitVec.toNat_ofNat, Nat.mod_eq_of_lt (Nat.lt_trans hlt (payload_length_lt hwf))]
    have hpos : (rxPaying f j r).pos.toNat = f.format.headerSize + j :=
      frame_pos_toNat hwf (by rw [frameTotal, frameSize]; omega)
    have hout : (m.writeBytes 0 (f.payload.take j)).holds (rxPaying f j r).cnt.toNat = true := by
      rw [Memory.writeBytes_holds, hcnt]
      exact m.holds_of_fits _ _ hfits hlt
    have hstep := h.pay (if_pos hlt) hpos (encodeFrame_getElem?_payload f x hlt) hout
      (rxAdvance_rxPaying hlt hwf r)
    have hwrite : (m.writeBytes 0 (f.payload.take j)).write j f.payload[j] =
        m.writeBytes 0 (f.payload.take (j + 1)) := by
      rw [← List.take_concat_get' _ j hlt, ← Memory.writeBytes_snoc, List.length_take,
        Nat.min_eq_left (Nat.le_of_lt hlt)]
    rw [hcnt, hwrite] at hstep
    exact (ih (Nat.le_of_lt hlt)).snoc hstep

/-- The footer, up to the step that judges the frame (42_deframer.md R127 to R129). -/
theorem DeframerReady.footer {f : Frame} {x : List Byte} {s : State} (h : DeframerReady (encodeFrame f ++ x) s)
    (hwf : f.wf = true) (m : Memory) (n : Nat) (mode : ErrMode) :
    UnitRuns .rxd 3 (rxWith s m (rxPaying f f.payload.length (RxRegs.started n mode)))
      (rxWith s m (unjudgedRegs f (RxRegs.started n mode))) := by
  have hphase : (rxPaying f f.payload.length (RxRegs.started n mode)).phase = .crch := if_neg (Nat.lt_irrefl _)
  have hpos (k : Nat) (hk : k < 3) : (BitVec.ofNat 17 (f.format.headerSize + f.payload.length + k)).toNat =
      f.format.headerSize + f.payload.length + k :=
    frame_pos_toNat hwf (by rw [frameTotal, frameSize, Config.footerSize]; omega)
  refine .succ (t := rxWith s m { rxPaying f f.payload.length (RxRegs.started n mode) with
      phase := .crcl, fcrc := withHigh (rxPaying f f.payload.length (RxRegs.started n mode)).fcrc (hiByte f.crc)
      pos := BitVec.ofNat 17 (f.format.headerSize + f.payload.length + 1) }) ?crch
    (.succ (t := rxWith s m { rxPaying f f.payload.length (RxRegs.started n mode) with
      phase := .term, fcrc := f.crc
      pos := BitVec.ofNat 17 (f.format.headerSize + f.payload.length + 2) }) ?crcl (.single ?term))
  case crch =>
    refine h.fetch (by simp [rxReads, hphase]) (by simp [hphase]) (hpos 0 (by decide))
      (encodeFrame_getElem?_footer f x 0) ?_
    rw [rxAdvance, hphase, BitVec.ofNat_add _ 1]
    rfl
  case crcl =>
    refine h.fetch rfl RxPhase.noConfusion (hpos 1 (by decide)) (encodeFrame_getElem?_footer f x 1) ?_
    have hcrc : withLow (withHigh (rxPaying f f.payload.length (RxRegs.started n mode)).fcrc (hiByte f.crc))
        (loByte f.crc) = f.crc := withLow_withHigh _ _
    have hnext : BitVec.ofNat 17 (f.format.headerSize + f.payload.length + 2) =
        BitVec.ofNat 17 (f.format.headerSize + f.payload.length + 1) + 1 := BitVec.ofNat_add _ 1
    simp only [rxAdvance, hnext, hcrc]
  case term =>
    refine h.fetch rfl RxPhase.noConfusion (hpos 2 (by decide)) (encodeFrame_getElem?_footer f x 2) ?_
    have hnext : BitVec.ofNat 17 (frameTotal f) =
        BitVec.ofNat 17 (f.format.headerSize + f.payload.length + 2) + 1 := BitVec.ofNat_add _ 1
    simp only [rxAdvance, unjudgedRegs, frameRegs, hnext, rxPaying, List.take_length]

/-! ### A whole run (42_deframer.md R120 to R133) -/

/-- RXD ends its operation in the step after the next `c`, and leaves `t`. -/
def DeframerEnds (c : Nat) (s t : State) : Prop :=
  ∃ w, UnitRuns .rxd c s w ∧ busy .rxd w = true ∧ takeTurn (.unit .rxd) w = .next t

/-- The steps of RXD before the one that finds no frame. -/
def rejectSteps : FrameReject → Nat
  | .empty => 0
  | .unknownMarker _ => 0
  | .headerShort _ present => present.length + 1
  | .sizeShort f _ => f.headerSize

/-- The steps of RXD before the one that ends the operation on the snapshot `b`. -/
def deframerSteps (b : List Byte) : Nat :=
  match decodeFrame b with
  | .error e => rejectSteps e
  | .ok f => f.format.headerSize + f.payload.length + 4

theorem deframerEnds_of_settle {c : Nat} {s : State} {m : Memory} {r : RxRegs} (hrun : UnitRuns .rxd c s (rxWith s m r))
    (hbusy : r.phase ≠ .idle) (hreads : rxReads r = false) : DeframerEnds c s (rxWith s m (rxSettle r)) :=
  ⟨_, hrun, rxBusy_eq_true_iff.mpr hbusy, takeTurn_rxWith_settle hreads⟩

theorem rxMarked_of_unknown {b : Byte} (hs : b ≠ 0x02#8) (hl : b ≠ 0x03#8) (r : RxRegs) :
    rxMarked b r = rxNoFrame { r with marker := b } := by
  rw [rxMarked, if_neg hs, if_neg hl]

theorem rxSettle_formatRegs (f : Format) (r : RxRegs) : rxSettle (formatRegs f r) = rxNoFrame (formatRegs f r) := by
  cases f <;> rfl

/-- The registers at an incomplete header that has no length byte. -/
theorem rejectRegs_headerShort_nil (f : Format) (n : Nat) (mode : ErrMode) :
    rejectRegs (.headerShort f []) (RxRegs.started n mode) =
      { formatRegs f (RxRegs.started n mode) with phase := .mark } := by
  cases f <;> rfl

theorem withHigh_zero (hi : Byte) : withHigh 0x0000#16 hi = joinBytes hi 0 := by
  rw [withHigh, show loByte 0x0000#16 = 0 from by decide]

/-- The registers at an incomplete header that has the high length byte. -/
theorem rejectRegs_headerShort_singleton (hi : Byte) (n : Nat) (mode : ErrMode) :
    rxNoFrame (rejectRegs (.headerShort .long [hi]) (RxRegs.started n mode)) =
      rxNoFrame (rxAdvance hi (formatRegs .long (RxRegs.started n mode))) := by
  simp only [rejectRegs, partialLen, List.headD_cons, ← withHigh_zero]
  rfl

theorem DeframerReady.ends_headerShort {f : Format} {present : List Byte} {s : State}
    (h : DeframerReady (f.marker :: present) s) (hshort : present.length + 1 < f.headerSize) (m : Memory)
    (mode : ErrMode) :
    DeframerEnds (present.length + 1) (rxWith s m (RxRegs.started (present.length + 1) mode))
      (rxWith s m (rxNoFrame (rejectRegs (.headerShort f present) (RxRegs.started (present.length + 1) mode)))) := by
  have hmarker := h.marker m mode
  match f, present with
  | f, [] =>
    have hends := deframerEnds_of_settle (.single hmarker) (by cases f <;> exact RxPhase.noConfusion)
      (rxReads_formatRegs f 1 mode)
    rw [rxSettle_formatRegs] at hends
    rw [rejectRegs_headerShort_nil]
    exact hends
  | .long, [hi] =>
    have hhigh := h.fetch (m := m) (r := formatRegs .long (RxRegs.started 2 mode)) (i := 1) rfl
      RxPhase.noConfusion rfl rfl rfl
    rw [rejectRegs_headerShort_singleton]
    exact deframerEnds_of_settle (.succ hmarker (.single hhigh)) RxPhase.noConfusion rfl

/-- A run that ends without a frame, by the class of the snapshot. -/
theorem DeframerReady.ends_of_reject {b : List Byte} {e : FrameReject} {s : State} (h : DeframerReady b s)
    (hsays : RejectSays b e) (m : Memory) (mode : ErrMode) :
    DeframerEnds (rejectSteps e) (rxWith s m (RxRegs.started b.length mode))
      (rxWith s m (rxNoFrame (rejectRegs e (RxRegs.started b.length mode)))) := by
  cases e with
  | empty =>
    obtain rfl : b = [] := hsays
    exact deframerEnds_of_settle (r := RxRegs.started 0 mode) (.zero _) RxPhase.noConfusion rfl
  | unknownMarker c =>
    obtain ⟨hs, hl, r, rfl⟩ := hsays
    refine ⟨_, .zero _, rfl, h.fetch (i := 0) ?_ RxPhase.noConfusion rfl rfl ?_⟩
    · exact rxReads_started (Nat.succ_ne_zero _) mode
    · exact rxMarked_of_unknown hs hl _
  | headerShort f present =>
    obtain ⟨rfl, hshort⟩ := hsays
    exact h.ends_headerShort hshort m mode
  | sizeShort f len =>
    obtain ⟨hheader, hlt⟩ := hsays
    obtain ⟨hmax, r, rfl⟩ := eq_headerBytes_append_of_decodeHeader hheader
    rw [← rxSized_headerRegs_of_incomplete hmax hlt, ← rxSettle_headerRegs]
    exact deframerEnds_of_settle (h.header hmax m mode) RxPhase.noConfusion rfl

/-- A run through a complete frame, up to the step that judges it. -/
theorem DeframerReady.ends_of_frame {f : Frame} {x : List Byte} {s : State} (h : DeframerReady (encodeFrame f ++ x) s)
    (hwf : f.wf = true) {m : Memory} (hfits : m.fits f.payload.length = true) (mode : ErrMode) :
    DeframerEnds (f.format.headerSize + f.payload.length + 4)
      (rxWith s m (RxRegs.started (encodeFrame f ++ x).length mode))
      (rxWith s (m.writeBytes 0 f.payload)
        (rxJudged (unjudgedRegs f (RxRegs.started (encodeFrame f ++ x).length mode)))) := by
  have hbytes : encodeFrame f ++ x = headerBytes f.format f.payload.length ++
      (f.payload ++ [hiByte f.crc, loByte f.crc, f.term] ++ x) := by
    simp [encodeFrame]
  have hle : frameTotal f ≤ (encodeFrame f ++ x).length := by
    rw [List.length_append, encodeFrame_length]
    exact Nat.le_add_right _ _
  have hheader := (hbytes ▸ h).header (of_decide_eq_true hwf) m mode
  rw [← hbytes] at hheader
  generalize (encodeFrame f ++ x).length = n at hle hheader
  have hsize : takeTurn (.unit .rxd) (rxWith s m (headerRegs f.format f.payload.length (RxRegs.started n mode))) =
      .next (rxWith s m (rxPaying f 0 (RxRegs.started n mode))) := by
    rw [takeTurn_rxWith_settle rfl, rxSettle_headerRegs, rxSized_headerRegs_of_complete hwf hle]
  have hpayload := h.payload hwf hfits (RxRegs.started n mode) (Nat.le_refl _)
  rw [List.take_length] at hpayload
  have hrun := ((hheader.snoc hsize).trans hpayload).trans (h.footer hwf _ n mode)
  have hcount : f.format.headerSize + 1 + f.payload.length + 3 = f.format.headerSize + f.payload.length + 4 := by omega
  exact deframerEnds_of_settle (r := unjudgedRegs f (RxRegs.started n mode)) (hcount ▸ hrun) RxPhase.noConfusion rfl

theorem deframerReady_started {n : Nat} {s : State} (hbuf : s.rxbuf.fits n = true) (mode : ErrMode) :
    DeframerReady (bufferOperand n s) (rxStarted n mode s) := by
  have hlen := bufferOperand_length n s
  exact
    { clean := rfl
      operand := by rw [hlen]; rfl
      room := by rwa [hlen] }

/-- From its start RXD runs through the snapshot as far as it goes, and its last step leaves what DECODE leaves. -/
theorem deframer_run {n : Nat} {s : State} (mode : ErrMode) (hbuf : s.rxbuf.fits n = true)
    (hroom : rxTooSmall n s = none) :
    DeframerEnds (deframerSteps (bufferOperand n s)) (rxStarted n mode s)
      (performDecode n mode (rxStarted n mode s)) := by
  have hready := deframerReady_started hbuf mode
  have hlen := bufferOperand_length n s
  rw [deframerSteps]
  cases hf : decodeFrame (bufferOperand n s) with
  | error e =>
    have hends := hready.ends_of_reject (rejectSays_of_decodeFrame hf) s.rxpay mode
    rw [hlen] at hends
    rw [performDecode_eq_of_reject (s := rxStarted n mode s) hf]
    exact hends
  | ok f =>
    obtain ⟨hwf, x, hx⟩ := decodeFrame_eq_ok_iff.mp hf
    have hfits : s.rxpay.fits f.payload.length = true := by
      by_contra hnot
      rw [rxTooSmall_of_frame hf, if_neg hnot] at hroom
      cases hroom
    rw [hx] at hready hlen
    have hends := hready.ends_of_frame hwf hfits mode
    rw [hlen] at hends
    rw [performDecode_eq_of_frame (mode := mode) (s := rxStarted n mode s) rfl hf]
    exact hends

/-- The count of R133. -/
theorem deframerSteps_succ (b : List Byte) :
    deframerSteps b + 1 = match decodeFrame b with
      | .error .empty => 1
      | .error (.unknownMarker _) => 1
      | .error (.headerShort _ present) => present.length + 2
      | .error (.sizeShort fmt _) => fmt.headerSize + 1
      | .ok f => f.format.headerSize + f.payload.length + 5 := by
  rw [deframerSteps]
  cases decodeFrame b with
  | error e => cases e <;> rfl
  | ok f => rfl

/-- RXD takes no more steps than the snapshot has bytes, and two. -/
theorem deframerSteps_le (b : List Byte) : deframerSteps b ≤ b.length + 1 := by
  rw [deframerSteps]
  cases hf : decodeFrame b with
  | error e =>
    have hsays := rejectSays_of_decodeFrame hf
    cases e with
    | empty => exact Nat.zero_le _
    | unknownMarker c => exact Nat.zero_le _
    | headerShort f present =>
      obtain ⟨rfl, -⟩ := hsays
      exact Nat.le_succ _
    | sizeShort f len =>
      obtain ⟨hheader, -⟩ := hsays
      obtain ⟨-, r, rfl⟩ := eq_headerBytes_append_of_decodeHeader hheader
      simp only [rejectSteps, List.length_append, headerBytes_length]
      omega
  | ok f =>
    obtain ⟨-, x, rfl⟩ := decodeFrame_eq_ok_iff.mp hf
    rw [List.length_append, encodeFrame_length, frameSize, Config.footerSize]
    exact Nat.add_le_add_right (Nat.le_add_right _ _) 1

/-- START.RX and the turns of RXD behind it, when the operation fits. -/
theorem steps_startRx {s : State} {n k : Nat} {mode : ErrMode} {rest : List Turn} (hidle : s.rx.phase = .idle)
    (hbuf : s.rxbuf.fits n = true) (hroom : rxTooSmall n s = none)
    (hagenda : s.agenda = .host (.startRx n mode) :: (List.replicate k (.unit .rxd) ++ rest)) :
    ∃ t, steps (k + 1) s = .next t ∧ (t.rx.phase = .idle ↔ deframerSteps (bufferOperand n s) + 1 ≤ k) ∧
      (deframerSteps (bufferOperand n s) + 1 ≤ k → exec (decodeInstr mode n) { s with agenda := rest } = .next t) := by
  obtain ⟨t, hrun, hbusy, hlast⟩ := deframer_run (s := { s with agenda := rest }) mode hbuf hroom
  have hdone : busy .rxd (performDecode n mode (rxStarted n mode { s with agenda := rest })) = false :=
    rxBusy_eq_false_iff.mpr (performDecode_idle n mode _)
  obtain ⟨w, hw, hiff, heq⟩ := hrun.idle_iff hbusy hlast hdone k
  refine ⟨w, steps_start_units hagenda ?_ hw, rxBusy_eq_false_iff.symm.trans hiff, fun hk => ?_⟩
  · exact startRxThen_taken hidle hbuf hroom
  · rw [heq hk]
    exact exec_decodeInstr_taken (s := { s with agenda := rest }) hidle hbuf hroom

/-- Settles O29: the step that ends the operation is the one after `deframerSteps`. -/
theorem deframerStepCount : Obligations.DeframerStepCount := by
  unfold Obligations.DeframerStepCount
  intro s n k mode rest hidle hbuf hroom hagenda
  obtain ⟨t, hsteps, hiff, -⟩ := steps_startRx hidle hbuf hroom hagenda
  rw [deframerSteps_succ] at hiff
  exact ⟨t, hsteps, hiff⟩

/-- Settles O28: a start that is not taken has no effect at either level, one that does not fit is refused at both,
and the others are `deframer_run`. -/
theorem deframerRefinesDecode : Obligations.DeframerRefinesDecode := by
  unfold Obligations.DeframerRefinesDecode
  intro s n k mode rest hidle hagenda hk
  cases hbuf : s.rxbuf.fits n with
  | false =>
    have hrun := UnitRuns.of_idle (u := .rxd) (s := { s with agenda := rest }) (rxBusy_eq_false_iff.mpr hidle) k
    have hsteps : steps (k + 1) s = .next { s with agenda := rest } :=
      steps_start_units (v := { s with agenda := rest }) hagenda
        (startRxThen_of_not_fits (s := { s with agenda := List.replicate k (.unit .rxd) ++ rest }) hbuf) hrun
    rw [hsteps, exec_decodeInstr]
    exact (startRxThen_of_not_fits (s := { s with agenda := rest }) hbuf).symm
  | true =>
    cases hroom : rxTooSmall n s with
    | some sp =>
      rw [steps_refused hagenda (startRxThen_of_tooSmall (sp := sp) hidle hbuf hroom), exec_decodeInstr]
      exact (startRxThen_of_tooSmall (s := { s with agenda := rest }) hidle hbuf hroom).symm
    | none =>
      obtain ⟨t, hsteps, -, hexec⟩ := steps_startRx hidle hbuf hroom hagenda
      have hcount := deframerSteps_le (bufferOperand n s)
      rw [bufferOperand_length] at hcount
      rw [hsteps, hexec (by omega)]

end Sys2Proof.Machine
